-- ==== Sys2Proof/Word.lean ====
section
/-! DEFINITION. The word types of the SB1606 and its saturating event counter.

Bit vectors hold what the manual treats as stored bits (bytes of frames, 16-bit samples, 32-bit
coefficients, block numbers that wrap, 16-bit counters); exact sums and powers are `Nat` or `Int`
(00_scope, Exact arithmetic). -/

namespace Sys2Proof

/-- A byte of a frame or record. -/
abbrev Byte := BitVec 8

/-- A signed 16-bit audio sample (00_scope, Samples). -/
abbrev Sample := BitVec 16

/-- A signed 32-bit coefficient (10, the page word). -/
abbrev Coef := BitVec 32

/-- The 64 data bits of a page word: coefficient 2i low, coefficient 2i+1 high. -/
abbrev DataWord := BitVec 64

/-- A value of the 32-bit block counter, which wraps (00_scope, Block numbers and ages). -/
abbrev BlockNo := BitVec 32

/-- A 16-bit event counter that saturates at 65535 (00_scope, Counters). -/
abbrev Counter := BitVec 16

/-- A time on the reference clock in nanoseconds (DESIGN CHOICE of unit, log entry 2). -/
abbrev Time := Nat

/-- A client link, L0 to L2. -/
abbrev Link := Fin 3

/-- A beam, 0 to 15. -/
abbrev Beam := Fin 16

/-- A loudspeaker zone, 0 to 5. -/
abbrev Zone := Fin 6

/-- A segment position of a path, 0 to 63. -/
abbrev Pos := Fin 64

/-- A page of the attached DRAM, 0 to 8191. -/
abbrev Page := Fin 8192

/-- A lane of the adaptation scheduler, 0 to 3. -/
abbrev LaneNo := Fin 4

/-- Add n events to a counter, saturating at 65535 (00_scope, Counters). -/
def Counter.add (c : Counter) (n : Nat) : Counter :=
  BitVec.ofNat 16 (min 65535 (c.toNat + n))

/-- Count one event. -/
def Counter.bump (c : Counter) : Counter := Counter.add c 1

end Sys2Proof
end

