-- ==== Sys2Proof/Syntax.lean ====
section
/-! DEFINITION. The commands of the SB1606: the 78 rows of spec/opcode_table.json as the one
inductive `Instr`, and the 32 client commands of 02 R32 as `Command`, which is what a command place
holds. The table gives no operands, so each row's operands are the parameters the owning chapter
lists, in the byte sizes it gives (log entry 7), or what arrives from outside (log entries 2, 17). -/

namespace Sys2Proof

/-- A client command as its record names it (02 R32), parameters in the order and size of the owning
chapter. A range is not part of the type: the checks of each chapter refuse bad values by status. -/
inductive Command where
  /-- 1 SET BEAM (R34): beam, setting number, signed eight-byte value. -/
  | setBeam (beam setting : Byte) (value : BitVec 64)
  /-- 2 SET DEVICE (R35): setting number, index, signed four-byte value. -/
  | setDevice (setting index : Byte) (value : BitVec 32)
  /-- 3 SET MIX (R46). -/
  | setMix (zone channel : Byte) (gain : BitVec 16)
  /-- 4 SET RECEIVE (R40): the beam numbers, as many as its count byte said. -/
  | setReceive (beams : List Byte)
  /-- 5 FREEZE (R42). -/
  | freeze (beams : BitVec 16)
  /-- 6 THAW (R42). -/
  | thaw (beams : BitVec 16)
  /-- 7 SET ACCESS MODE (R43). -/
  | setAccessMode (mode : Byte)
  /-- 8 SET NOTICE MASK (R38). -/
  | setNoticeMask (flags : Byte)
  /-- 9 CLEAR NOTICES (R39). -/
  | clearNotices (flags : Byte)
  /-- 10 SET ROTATION (R122). -/
  | setRotation (mode : Byte)
  /-- 11 SET BOTTOM (R122). -/
  | setBottom (beam : Byte)
  /-- 12 RETRAIN BEAM (R118). -/
  | retrainBeam (beam : Byte)
  /-- 13 RESET PROCESSING (R36). -/
  | resetProcessing
  /-- 14 MAP SEGMENTS (R71). -/
  | mapSegments (beam zone first count : Byte)
  /-- 15 UNMAP SEGMENTS (R74). -/
  | unmapSegments (beam zone first count : Byte)
  /-- 16 SET WINDOW (R61). -/
  | setWindow (beam zone window : Byte)
  /-- 17 PIN SEGMENTS (R76). -/
  | pinSegments (beam zone first count : Byte)
  /-- 18 UNPIN SEGMENTS (R76). -/
  | unpinSegments (beam zone first count : Byte)
  /-- 19 SET ANCHORING (R77). -/
  | setAnchoring (beam mode : Byte)
  /-- 20 CHECKPOINT BEAM (R155). -/
  | checkpointBeam (beam : Byte)
  /-- 21 RESTORE BEAM (R157). -/
  | restoreBeam (beam : Byte)
  /-- 22 CLEAR BEAM (R158). -/
  | clearBeam (beam : Byte)
  /-- 23 FILL SEGMENTS (R160). -/
  | fillSegments (beam zone first count : Byte) (value : Coef)
  /-- 24 READ COEFFICIENTS (R182). -/
  | readCoefficients (beam zone pos first count : Byte)
  /-- 25 WRITE COEFFICIENTS (R183): the values, as many as its count byte said. -/
  | writeCoefficients (beam zone pos first : Byte) (values : List Coef)
  /-- 26 QUERY BEAM (R194). -/
  | queryBeam (beam clear : Byte)
  /-- 27 QUERY PATH (R79). -/
  | queryPath (beam zone first : Byte)
  /-- 28 QUERY POOL (R80). -/
  | queryPool (clear : Byte)
  /-- 29 QUERY SCHEDULER (R134). -/
  | queryScheduler (clear : Byte)
  /-- 30 QUERY LINK (R44). -/
  | queryLink (clear : Byte)
  /-- 31 QUERY MEMORY (R180). -/
  | queryMemory (clear : Byte)
  /-- 32 QUERY TIMER (R15). -/
  | queryTimer (clear : Byte)
  /-- A record of a known command whose parameter length is wrong for it (R29, check 2). -/
  | malformed (number : Byte)
  /-- A record whose command number is 0 or above 32 (R29, check 1). -/
  | unknown (number : Byte)
  deriving DecidableEq, Repr

/-- The steps of the table within which another row's event can happen
(95_what_each_step_holds, "also within"). -/
inductive Carrier where
  /-- One segment read grant (R84). -/
  | segmentRead
  /-- A capture frame arriving at a time (R2). -/
  | captureFrame (bytes : List Byte) (time : Time)
  /-- The watch window closing (R7). -/
  | watchExpiry
  /-- The free-running period elapsing (R8). -/
  | freeRunning
  /-- A frame arriving on a link (R18). -/
  | inboundFrame (link : Link) (bytes : List Byte)
  deriving DecidableEq, Repr

/-- One constructor for each row of spec/opcode_table.json, in the table's order. -/
inductive Instr where
  /-- POWER_ON_RESET (R3); `time` is the moment reset ends. -/
  | powerOnReset (time : Time)
  /-- CAPTURE_FRAME (R2): the bytes received from a frame start, and the arrival time. -/
  | captureFrame (bytes : List Byte) (time : Time)
  /-- WATCH_EXPIRY (R7). -/
  | watchExpiry
  /-- FREE_RUNNING_BOUNDARY (R8). -/
  | freeRunningBoundary
  /-- BAD_RUN_HOLDOVER (R5, R6): the capture frame at which the bad-frame run reaches 4. -/
  | badRunHoldover (bytes : List Byte) (time : Time)
  /-- RELOCK (R10): the capture frame that brings the good-frame run to the lock count. -/
  | relock (bytes : List Byte) (time : Time)
  /-- INBOUND_FRAME (R18): the bytes received from a frame start on a link. -/
  | inboundFrame (link : Link) (bytes : List Byte)
  /-- LINK_LOCK (R21): the inbound frame that locks a link in SEARCH. -/
  | linkLock (link : Link) (bytes : List Byte)
  /-- LINK_LAPSE (R27): a link's departure from LOCKED, within the step that causes it. -/
  | linkLapse (link : Link) (within : Carrier)
  /-- SET_BEAM_ENABLE (R70), SET BEAM setting 1. -/
  | setBeamEnable (link : Link) (tag beam : Byte) (value : BitVec 64)
  /-- SET_BEAM_STEP (R141), setting 2. -/
  | setBeamStep (link : Link) (tag beam : Byte) (value : BitVec 64)
  /-- SET_BEAM_REGULARISATION (R92), setting 3. -/
  | setBeamRegularisation (link : Link) (tag beam : Byte) (value : BitVec 64)
  /-- SET_BEAM_FAR_THRESHOLD (R102), setting 4. -/
  | setBeamFarThreshold (link : Link) (tag beam : Byte) (value : BitVec 64)
  /-- SET_BEAM_COUPLING (R102), setting 5. -/
  | setBeamCoupling (link : Link) (tag beam : Byte) (value : BitVec 64)
  /-- SET_BEAM_NEAR_FLOOR (R102), setting 6. -/
  | setBeamNearFloor (link : Link) (tag beam : Byte) (value : BitVec 64)
  /-- SET_BEAM_ENTRY_COUNT (R104), setting 7. -/
  | setBeamEntryCount (link : Link) (tag beam : Byte) (value : BitVec 64)
  /-- SET_BEAM_NORMAL_COUNT (R104), setting 8. -/
  | setBeamNormalCount (link : Link) (tag beam : Byte) (value : BitVec 64)
  /-- SET_BEAM_HANGOVER_COUNT (R104), setting 9. -/
  | setBeamHangoverCount (link : Link) (tag beam : Byte) (value : BitVec 64)
  /-- SET_BEAM_DIVERGENCE_MARGIN (R108), setting 10. -/
  | setBeamDivergenceMargin (link : Link) (tag beam : Byte) (value : BitVec 64)
  /-- SET_BEAM_DIVERGENCE_COUNT (R108), setting 11. -/
  | setBeamDivergenceCount (link : Link) (tag beam : Byte) (value : BitVec 64)
  /-- SET_BEAM_TARGET_RATIO (R112), setting 12. -/
  | setBeamTargetRatio (link : Link) (tag beam : Byte) (value : BitVec 64)
  /-- SET_BEAM_TRIGGER (R117), setting 13. -/
  | setBeamTrigger (link : Link) (tag beam : Byte) (value : BitVec 64)
  /-- SET_BEAM_CAPTURE_RATIO (R111), setting 14. -/
  | setBeamCaptureRatio (link : Link) (tag beam : Byte) (value : BitVec 64)
  /-- SET_BEAM_CAPTURE_COUNT (R111), setting 15. -/
  | setBeamCaptureCount (link : Link) (tag beam : Byte) (value : BitVec 64)
  /-- SET_BEAM_CAPTURE_INTERVAL (R111), setting 16. -/
  | setBeamCaptureInterval (link : Link) (tag beam : Byte) (value : BitVec 64)
  /-- SET_BEAM_SUPPRESSION_GAIN (R192), setting 17. -/
  | setBeamSuppressionGain (link : Link) (tag beam : Byte) (value : BitVec 64)
  /-- SET_BEAM_DOUBLE_TALK_GAIN (R192), setting 18. -/
  | setBeamDoubleTalkGain (link : Link) (tag beam : Byte) (value : BitVec 64)
  /-- SET_BEAM_RESTORE_GAIN (R192), setting 19. -/
  | setBeamRestoreGain (link : Link) (tag beam : Byte) (value : BitVec 64)
  /-- SET_BEAM_RAMP_STEP (R192), setting 20. -/
  | setBeamRampStep (link : Link) (tag beam : Byte) (value : BitVec 64)
  /-- SET_BEAM_BEAM_LIMIT (R192), setting 21. -/
  | setBeamBeamLimit (link : Link) (tag beam : Byte) (value : BitVec 64)
  /-- SET_DEVICE_CLIENT_SHARE (R169), SET DEVICE setting 1. -/
  | setDeviceClientShare (link : Link) (tag index : Byte) (value : BitVec 32)
  /-- SET_DEVICE_HOLD_LIMIT (R131), setting 2. -/
  | setDeviceHoldLimit (link : Link) (tag index : Byte) (value : BitVec 32)
  /-- SET_DEVICE_LINK_LOCK_COUNT (R22), setting 3. -/
  | setDeviceLinkLockCount (link : Link) (tag index : Byte) (value : BitVec 32)
  /-- SET_DEVICE_CAPTURE_LOCK_COUNT (R11), setting 4. -/
  | setDeviceCaptureLockCount (link : Link) (tag index : Byte) (value : BitVec 32)
  /-- SET_DEVICE_ZONE_LIMIT (R49), setting 5; the index is the zone. -/
  | setDeviceZoneLimit (link : Link) (tag index : Byte) (value : BitVec 32)
  /-- SET_DEVICE_ZONE_MUTE (R49), setting 6; the index is the zone. -/
  | setDeviceZoneMute (link : Link) (tag index : Byte) (value : BitVec 32)
  /-- SET_MIX (R46). -/
  | setMix (link : Link) (tag zone channel : Byte) (gain : BitVec 16)
  /-- SET_RECEIVE (R40): the count byte and the beam bytes of the record. -/
  | setReceive (link : Link) (tag count : Byte) (beams : List Byte)
  /-- FREEZE (R42). -/
  | freeze (link : Link) (tag : Byte) (beams : BitVec 16)
  /-- THAW (R42). -/
  | thaw (link : Link) (tag : Byte) (beams : BitVec 16)
  /-- SET_ACCESS_MODE (R43). -/
  | setAccessMode (link : Link) (tag mode : Byte)
  /-- SET_NOTICE_MASK (R38). -/
  | setNoticeMask (link : Link) (tag flags : Byte)
  /-- CLEAR_NOTICES (R39). -/
  | clearNotices (link : Link) (tag flags : Byte)
  /-- SET_ROTATION (R122). -/
  | setRotation (link : Link) (tag mode : Byte)
  /-- SET_BOTTOM (R122). -/
  | setBottom (link : Link) (tag beam : Byte)
  /-- RETRAIN_BEAM (R118). -/
  | retrainBeam (link : Link) (tag beam : Byte)
  /-- RESET_PROCESSING (R36). -/
  | resetProcessing (link : Link) (tag : Byte)
  /-- MAP_SEGMENTS (R71). -/
  | mapSegments (link : Link) (tag beam zone first count : Byte)
  /-- UNMAP_SEGMENTS (R74). -/
  | unmapSegments (link : Link) (tag beam zone first count : Byte)
  /-- SET_WINDOW (R61). -/
  | setWindow (link : Link) (tag beam zone window : Byte)
  /-- PIN_SEGMENTS (R76). -/
  | pinSegments (link : Link) (tag beam zone first count : Byte)
  /-- UNPIN_SEGMENTS (R76). -/
  | unpinSegments (link : Link) (tag beam zone first count : Byte)
  /-- SET_ANCHORING (R77). -/
  | setAnchoring (link : Link) (tag beam mode : Byte)
  /-- CHECKPOINT_BEAM (R155). -/
  | checkpointBeam (link : Link) (tag beam : Byte)
  /-- RESTORE_BEAM (R157). -/
  | restoreBeam (link : Link) (tag beam : Byte)
  /-- CLEAR_BEAM (R158). -/
  | clearBeam (link : Link) (tag beam : Byte)
  /-- FILL_SEGMENTS (R160). -/
  | fillSegments (link : Link) (tag beam zone first count : Byte) (value : Coef)
  /-- READ_COEFFICIENTS (R182). -/
  | readCoefficients (link : Link) (tag beam zone pos first count : Byte)
  /-- WRITE_COEFFICIENTS (R183): the count byte and the values of the record. -/
  | writeCoefficients (link : Link) (tag beam zone pos first count : Byte) (values : List Coef)
  /-- QUERY_BEAM (R194). -/
  | queryBeam (link : Link) (tag beam clear : Byte)
  /-- QUERY_PATH (R79). -/
  | queryPath (link : Link) (tag beam zone first : Byte)
  /-- QUERY_POOL (R80). -/
  | queryPool (link : Link) (tag clear : Byte)
  /-- QUERY_SCHEDULER (R134). -/
  | queryScheduler (link : Link) (tag clear : Byte)
  /-- QUERY_LINK (R44). -/
  | queryLink (link : Link) (tag clear : Byte)
  /-- QUERY_MEMORY (R180). -/
  | queryMemory (link : Link) (tag clear : Byte)
  /-- QUERY_TIMER (R15). -/
  | queryTimer (link : Link) (tag clear : Byte)
  /-- SEGMENT_READ_GRANT (R84). -/
  | segmentReadGrant
  /-- TALK_STATE_CHANGE (R103), within the step that evaluates the beam. -/
  | talkStateChange (beam : Beam) (within : Carrier)
  /-- DIVERGENCE_DECLARED (R107), within the step that evaluates the beam. -/
  | divergenceDeclared (beam : Beam) (within : Carrier)
  /-- CAPTURE_TRIGGER (R110), within the step that evaluates the beam. -/
  | captureTrigger (beam : Beam) (within : Carrier)
  /-- HOLD_LIMIT_ABANDON (R131), within the step that forms the demand list. -/
  | holdLimitAbandon (lane : LaneNo) (within : Carrier)
  /-- ADAPTATION_WRITE_GRANT (R137). -/
  | adaptationWriteGrant
  /-- COPY_UNIT_GRANT (R150). -/
  | copyUnitGrant
  /-- STORE_READ_GRANT (R182). -/
  | storeReadGrant
  /-- STORE_WRITE_GRANT (R185). -/
  | storeWriteGrant
  /-- REPAIR_WRITE (R177). -/
  | repairWrite
  /-- SCRUB_READ (R178). -/
  | scrubRead
  /-- UNKNOWN_COMMAND (R29): a whole command record whose number is 0 or above 32. -/
  | unknownCommand (link : Link) (tag number : Byte) (params : List Byte)
  deriving DecidableEq, Repr

end Sys2Proof
end

