-- ==== Sys2Proof/Decode.lean ====
section
/-! DEFINITION. Reading a command from a word by the opcode table's bits. No row of
spec/opcode_table.json gives bits, so no word spells a command. (The byte layout of command records,
02 R17, is read in Machine/Operands.lean.) -/

namespace Sys2Proof

/-- The command that a word spells by the table's bits: none, for every word, because no row of the
table gives any. -/
def decodeTableWord (_nbits _w : Nat) : Option Instr := none

end Sys2Proof
end

