-- ==== Sys2Proof/Machine/Arith.lean ====
section
/-! DEFINITION. The arithmetic the chapters share: rounding, saturation, energies (00_scope,
Conventions), the byte orders of 02 R33 and the check word of 02 R19. -/

namespace Sys2Proof.Machine

/-- 00_scope, Rounding and Division: a divided by d, rounded to nearest, ties away from zero. -/
def roundDiv (a : Int) (d : Nat) : Int :=
  if a < 0 then -(((2 * a.natAbs + d) / (2 * d) : Nat) : Int)
  else (((2 * a.natAbs + d) / (2 * d) : Nat) : Int)

/-- Clamp to lo..hi. -/
def clampInt (lo hi x : Int) : Int := if x < lo then lo else if hi < x then hi else x

/-- 00_scope, Saturation: to 16 bits. -/
def sat16 (x : Int) : Sample := BitVec.ofInt 16 (clampInt (-32768) 32767 x)

/-- 00_scope, Saturation: to 32 bits. -/
def sat32 (x : Int) : Coef := BitVec.ofInt 32 (clampInt (-2147483648) 2147483647 x)

/-- Whether saturation to 16 bits changes the value (R86, R88). -/
def over16 (x : Int) : Bool := x < -32768 || 32767 < x

/-- The square of a sample. -/
def square (x : Sample) : Nat := x.toInt.natAbs * x.toInt.natAbs

/-- 00_scope, Energies and powers: an exact sum of squares. -/
def energy (xs : List Sample) : Nat := (xs.map square).sum

/-- R56, R91: a smoothed power brought up to date from a block energy. -/
def smooth (p e : Nat) : Nat := p - p / 16 + e / 16

/-- The exact sum of products of two lists, position by position. -/
def dot {m n : Nat} (ws : List (BitVec m)) (xs : List (BitVec n)) : Int :=
  (List.zipWith (fun w x => w.toInt * x.toInt) ws xs).sum

/-- The value nearest to v in a setting's range lo..hi (R34, R35). -/
def clampSetting (lo hi : Nat) (v : Int) : Nat := (clampInt lo hi v).toNat

/-- Whether v lies in a setting's range. -/
def inSetting (lo hi : Nat) (v : Int) : Bool := (lo : Int) ≤ v && v ≤ (hi : Int)

/-! ## Bytes -/

/-- R33: n bytes of x, low byte first. -/
def leBytes : Nat → Nat → List Byte
  | 0, _ => []
  | n + 1, x => BitVec.ofNat 8 x :: leBytes n (x / 256)

/-- R33: the number whose bytes, low byte first, are given. -/
def fromLe : List Byte → Nat
  | [] => 0
  | b :: bs => b.toNat + 256 * fromLe bs

/-- A flag as a byte. -/
def boolByte (b : Bool) : Byte := if b then 1 else 0

/-- R17, R2, R16: samples as they are sent, low byte first. -/
def samplesToBytes (xs : List Sample) : List Byte := xs.flatMap fun x => leBytes 2 x.toNat

/-- R17, R2: samples as they are received, low byte first. -/
def samplesOfBytes : List Byte → List Sample
  | lo :: hi :: rest => (hi ++ lo) :: samplesOfBytes rest
  | _ => []

/-- The 32 samples of channel or beam c in channel-major sample bytes. -/
def channelSamples (bytes : List Byte) (c : Nat) : List Sample :=
  samplesOfBytes ((bytes.drop (64 * c)).take 64)

/-- R19: one bit of the check word. -/
def crcBit (r : BitVec 16) (b : Bool) : BitVec 16 :=
  if r.msb != b then (r <<< 1) ^^^ 0x1021#16 else r <<< 1

/-- R19: one byte of the check word, most significant bit down. -/
def crcByte (r : BitVec 16) (b : Byte) : BitVec 16 :=
  [7, 6, 5, 4, 3, 2, 1, 0].foldl (fun r i => crcBit r (b.getLsbD i)) r

/-- R19: the check word of the covered bytes, from 0xFFFF, with no final inversion. -/
def checkWord (bytes : List Byte) : BitVec 16 := bytes.foldl crcByte 0xFFFF#16

/-- The check word as it is sent, high byte first. -/
def checkBytes (bytes : List Byte) : List Byte :=
  let w := checkWord bytes
  [w.extractLsb' 8 8, w.extractLsb' 0 8]

end Sys2Proof.Machine
end

