-- ==== Sys2Proof/Config.lean ====
section
/-! DEFINITION. The fixed quantities of the part and the values the spec leaves open. A value left
open is an opaque constant: nothing in Lean can evaluate it or prove a value of it. -/

namespace Sys2Proof.Config

/-- R1: the free-running period, 1.00 ms. -/
def freeRunningPeriod : Nat := 1000000

/-- R1: the guard, 0.50 ms. -/
def guardTime : Nat := 500000

/-- R1: the watch window, 1.25 ms. -/
def watchWindow : Nat := 1250000

/-- R52: samples in a zone's ring. -/
def ringLength : Nat := 16416

/-- R65: pages of the attached DRAM. -/
def pageCount : Nat := 8192

/-- R68: the free low mark. -/
def freeLowMark : Nat := 256

/-- R69: the active segment limit. -/
def activeLimit : Nat := 1024

/-- R167: transfers in a block's budget. -/
def blockBudget : Nat := 2048

/-- R125: most entries of a demand list. -/
def demandLimit : Nat := 256

/-- R171: most scrub and repair transfers in a block. -/
def scrubAllowance : Nat := 4

/-- R172: places of the repair list. -/
def repairPlaces : Nat := 8

/-- R147: most listed jobs that came from commands. -/
def commandJobLimit : Nat := 16

/-- FREE VALUE (log entry 10): the continuation mark of an outbound frame that carries no piece. The
spec says only that the mark "is not read" (02, Records and their pieces). The arguments are the
model's draw counter and the link. -/
opaque idleMark : Nat → Link → Bool

/-- FREE VALUE (log entry 11): what QUERY SCHEDULER reports for held, hold age, updated and grant
block of a lane that is free; R134 gives values for its beam and position only. The arguments are the
model's draw counter and the lane; the ranges R134 states are kept. -/
opaque freeLaneFields : Nat → LaneNo → Bool × BitVec 16 × Fin 385 × BlockNo

end Sys2Proof.Config
end

