-- ==== Sys2Proof/Machine/State.lean ====
section
/-! DEFINITION. The state of the SB1606 as plain data, the reasons a step can stop, and the state
after power-on reset. Each field cites the rule that names it; INVENTORY.md lists them all with their
reset values. -/

namespace Sys2Proof.Machine

/-- A map over a vector that the kernel can evaluate. -/
def vmap {α β : Type} {n : Nat} (f : α → β) (v : Vector α n) : Vector β n :=
  ⟨⟨v.toList.map f⟩, by simp⟩

/-! ## Frame timer (01) -/

/-- R3: the timer state; in RUN it has the watch mark. -/
inductive TimerMode where
  | holdover
  | run (watchMark : Time)
  deriving DecidableEq, Repr

/-- R12: the capture status of a block. -/
inductive CaptureStatus where
  | good
  | badFrame
  | holdover
  deriving DecidableEq, Repr

/-- R3, R11, R12, R14: the frame timer. -/
structure Timer where
  mode : TimerMode := .holdover
  block : BlockNo := 0
  /-- The end of reset stands here until the first boundary (log entry 3). -/
  lastBoundary : Time := 0
  goodRun : Nat := 0
  badRun : Nat := 0
  lockCount : Nat := 2
  /-- Status of the current block; HOLDOVER before the first (R3). -/
  status : CaptureStatus := .holdover
  badFrames : Counter := 0
  earlyFrames : Counter := 0
  watchExpiries : Counter := 0
  holdoverEntries : Counter := 0
  relocks : Counter := 0
  deriving DecidableEq, Repr

/-! ## Client links (02, 11) -/

/-- R21: a link's state. -/
inductive LinkMode where
  | search
  | locked
  deriving DecidableEq, Repr

/-- R43: a link's store access mode. -/
inductive Access where
  | background
  | priority
  deriving DecidableEq, Repr

/-- R20: a record in progress: the bytes received so far and the total length 4 + p. -/
structure Assembly where
  bytes : List Byte
  total : Nat
  deriving DecidableEq, Repr

/-- R28: the stage of a command place. An ANSWER place holds its response record and how many of its
bytes have been sent (R30). -/
inductive Stage where
  | queued (c : Command)
  | executing (c : Command)
  | answer (record : List Byte) (sent : Nat)
  deriving DecidableEq, Repr

/-- R28: an occupied command place. -/
structure Place where
  tag : Byte
  stage : Stage
  deriving DecidableEq, Repr

/-- A segment-table index: beam, zone and position (04, the segment table). -/
structure SegAddr where
  beam : Beam
  zone : Zone
  pos : Pos
  deriving DecidableEq, Repr

/-- 11, store request queue: a request records its kind, its address and, for a write, its values. -/
inductive StoreKind where
  | read
  | write (values : List Coef)
  deriving DecidableEq, Repr

/-- 11: a request of the store request queue. Its link is the one that holds it. -/
structure StoreRequest where
  kind : StoreKind
  addr : SegAddr
  first : Nat
  count : Nat
  deriving DecidableEq, Repr

/-- 02: one client link. The command places are listed in arrival order (R28). -/
structure LinkState where
  mode : LinkMode := .search
  lockRun : Nat := 0
  runCount : Byte := 0
  runChannels : Nat := 0
  channels : Nat := 0
  expected : Byte := 0
  badRun : Nat := 0
  fill : Nat := 0
  /-- R25: one buffer a channel, oldest sample first. -/
  slips : List (List Sample) := []
  assembly : Option Assembly := none
  places : List Place := []
  notices : Byte := 0
  mask : Byte := 255
  receive : List Beam := []
  freeze : BitVec 16 := 0
  access : Access := .background
  /-- 11: the link's entry of the store request queue. -/
  request : Option StoreRequest := none
  badFrames : Counter := 0
  overruns : Counter := 0
  slipDrops : Counter := 0
  repeats : Counter := 0
  underruns : Counter := 0
  cmdOverruns : Counter := 0
  lostRecords : Counter := 0
  lapses : Counter := 0
  /-- R41: the outbound frame last sent; empty until the first boundary. -/
  outFrame : List Byte := []
  deriving DecidableEq, Repr

/-- R37: the eight notice flags. -/
inductive Notice where
  | beamDiverged
  | jobDone
  | anchorTaken
  | storeFault
  | captureState
  | poolLow
  | slip
  | overrun
  deriving DecidableEq, Repr

/-! ## Zone mixer and reference history (03) -/

/-- R45, R49, R52 to R56: one zone. `ring` is newest first: entry 0 is x(31) of the current block.
`energies` are E_256, E_512, ..., E_16384 in that order. -/
structure ZoneState where
  gains : Vector (BitVec 16) 12 := Vector.replicate 12 0
  limit : Nat := 32767
  mute : Bool := false
  ring : List Sample := List.replicate Config.ringLength 0
  energies : Vector Nat 7 := Vector.replicate 7 0
  ex : Nat := 0
  px : Nat := 0
  deriving DecidableEq, Repr

/-! ## Beams (04 to 09, 12) -/

/-- R117: trigger mode. -/
inductive Trigger where
  | level
  | latched
  deriving DecidableEq, Repr

/-- The integer and trigger settings of SET BEAM (R34), with the defaults of the owning chapters. -/
structure BeamSettings where
  mu : Nat := 32
  delta : Nat := 16777216
  farThreshold : Nat := 4194304
  coupling : Nat := 128
  nearFloor : Nat := 1048576
  entryCount : Nat := 1
  normalCount : Nat := 2
  hangoverCount : Nat := 8
  margin : Nat := 4
  divergenceCount : Nat := 20
  targetRatio : Nat := 64
  trigger : Trigger := .level
  captureRatio : Nat := 32
  captureCount : Nat := 500
  captureInterval : Nat := 10000
  suppression : Nat := 4096
  doubleTalk : Nat := 16384
  restore : Nat := 1024
  ramp : Nat := 2048
  limit : Nat := 32767
  deriving DecidableEq, Repr

/-- 05: what the estimator keeps for a beam. `y` and `e` are empty until the first completion after
power-on reset, since none has been formed (R96). -/
structure Estimate where
  y : List Sample := []
  e : List Sample := []
  block : BlockNo := 0
  reads : Nat := 0
  zeroed : Nat := 0
  ed : Nat := 0
  ey : Nat := 0
  ee : Nat := 0
  pd : Nat := 0
  py : Nat := 0
  pe : Nat := 0
  normaliser : Nat := 16777216
  estSats : Counter := 0
  errSats : Counter := 0
  uncorrectable : Counter := 0
  deriving DecidableEq, Repr

/-- 06: the four talk states. -/
inductive TalkState where
  | quiet
  | farOnly
  | nearOnly
  | double
  deriving DecidableEq, Repr

/-- 06: what the talk detector keeps for a beam. -/
structure Talk where
  state : TalkState := .quiet
  candidate : Option TalkState := none
  run : Nat := 0
  divergenceRun : Nat := 0
  captureRun : Nat := 0
  request : Bool := false
  block : BlockNo := 0
  fe : Bool := false
  ne : Bool := false
  xb : Nat := 0
  pxb : Nat := 0
  divergences : Counter := 0
  /-- R109: a CAPTURE, RESTORE or CLEAR of the beam has been queued since its latest evaluation began
  (log entry 26). -/
  copyQueued : Bool := false
  deriving DecidableEq, Repr

/-- R152, R154: a beam's anchor record and its aborted captures counter. -/
structure Anchor where
  valid : Bool := false
  block : BlockNo := 0
  captures : Counter := 0
  aborted : Counter := 0
  deriving DecidableEq, Repr

/-- 12: what the output stage holds for a beam. -/
structure Output where
  target : Nat := 0
  current : Nat := 0
  applied : Nat := 0
  samples : List Sample := List.replicate 32 0
  block : BlockNo := 0
  clamps : Counter := 0
  deriving DecidableEq, Repr

/-- One beam: its switches, windows, settings and the records of the blocks that serve it. -/
structure BeamState where
  /-- R70. -/
  enable : Bool := false
  /-- R77. -/
  anchoring : Bool := false
  /-- R60: W(b, z). -/
  windows : Vector Nat 6 := Vector.replicate 6 0
  set : BeamSettings := {}
  est : Estimate := {}
  talk : Talk := {}
  /-- R116: the request latch. -/
  latch : Bool := false
  /-- R129: passes completed. -/
  passes : Counter := 0
  anchor : Anchor := {}
  out : Output := {}
  deriving DecidableEq, Repr

/-! ## Path model (04) -/

/-- R63: the two states of an entry that is not ABSENT. -/
inductive SegState where
  | clearing
  | mapped
  deriving DecidableEq, Repr

/-- 04: a segment-table entry that is not ABSENT. An entry not listed is ABSENT, with both flags clear
(04, the segment table). -/
structure Segment where
  addr : SegAddr
  state : SegState
  page : Page
  anchor : Option Page
  pinned : Bool
  damaged : Bool
  deriving DecidableEq, Repr

/-- R67, R80: the page pool's written marks (bit p is page p's) and counters. The role of a page is
read from the segment table (R65). -/
structure Pool where
  written : BitVec 8192 := 0
  lowRaises : Counter := 0
  shortRefusals : Counter := 0
  overLimit : Counter := 0
  deriving DecidableEq, Repr

/-! ## The estimator's block in progress (05, 08) -/

/-- R84: what one estimator read returned: the 256 coefficients used (the base of R140) and how many
words were zeroed. -/
structure Base where
  addr : SegAddr
  coefs : List Coef
  zeroed : Nat
  deriving DecidableEq, Repr

/-- R82, R83: what the estimator took at the boundary, the reads it still waits for, and what its
reads of the block returned. -/
structure Work where
  rings : Vector (List Sample) 6 := Vector.replicate 6 (List.replicate Config.ringLength 0)
  energies : Vector (Vector Nat 7) 6 := Vector.replicate 6 (Vector.replicate 7 0)
  enabled : BitVec 16 := 0
  reads : List SegAddr := []
  bases : List Base := []
  deriving DecidableEq, Repr

/-! ## Adaptation scheduler (07) -/

/-- R120: a lane's pass record. `point` numbers the pass point (zone, position) as 64·zone + position. -/
structure Pass where
  beam : Beam
  point : Nat
  held : Bool
  age : Nat
  updated : Nat
  grant : BlockNo
  deriving DecidableEq, Repr

/-- R122: rotation mode. -/
inductive Rotation where
  | rotating
  | fixed
  deriving DecidableEq, Repr

/-- R125: an entry of the demand list. -/
structure Demand where
  lane : LaneNo
  addr : SegAddr
  deriving DecidableEq, Repr

/-- 07: the scheduler. `demand` holds the entries of the current list not yet granted. -/
structure Scheduler where
  lanes : Vector (Option Pass) 4 := Vector.replicate 4 none
  bottom : Beam := 15
  rotation : Rotation := .rotating
  holdLimit : Nat := 200
  demand : List Demand := []
  demandBlock : BlockNo := 0
  listed : Nat := 0
  granted : Nat := 0
  holdAbandons : Counter := 0
  abandons : Counter := 0
  deriving DecidableEq, Repr

/-! ## Model copy unit (09) -/

/-- R147: where a CAPTURE, RESTORE or CLEAR came from. -/
inductive Origin where
  | command (link : Link)
  | trigger
  | divergence
  deriving DecidableEq, Repr

/-- R147: a job. `next` is the progress: a pass point of the beam (64·zone + position) for the three
copy kinds, a position for FILL, an index of the list for ZERO. -/
inductive Job where
  | capture (beam : Beam) (origin : Origin) (next : Nat) (fault : Bool)
  | restore (beam : Beam) (origin : Origin) (next : Nat) (fault : Bool)
  | clear (beam : Beam) (origin : Origin) (next : Nat)
  | fill (beam : Beam) (zone : Zone) (first last : Pos) (value : Coef) (next : Nat) (link : Link)
  | zero (beam : Beam) (zone : Zone) (positions : List Pos) (next : Nat) (link : Link)
  deriving DecidableEq, Repr

/-- R149: a beam's model state, which follows its listed job. -/
inductive ModelState where
  | idle
  | capturing
  | restoring
  | clearing
  deriving DecidableEq, Repr

/-! ## Memory port (10) -/

/-- R167: the block account, by kind; a copy pair counts two. -/
structure Account where
  segmentReads : Nat := 0
  store : Nat := 0
  copy : Nat := 0
  adaptation : Nat := 0
  scrub : Nat := 0
  deriving DecidableEq, Repr

/-- R170: the alternation mark names the engine user served last. -/
inductive Engine where
  | copyUnit
  | updater
  deriving DecidableEq, Repr

/-- R174: who read a word. -/
inductive Reader where
  | estimator
  | copy
  | store
  | scrub
  deriving DecidableEq, Repr

/-- R172: a repair-list entry. -/
structure Repair where
  page : Page
  word : Nat
  value : DataWord
  deriving DecidableEq, Repr

/-- R179: the last-uncorrectable field. -/
structure LastBad where
  page : Page
  word : Nat
  block : BlockNo
  reader : Reader
  deriving DecidableEq, Repr

/-- 10: the memory port. -/
structure Port where
  /-- None until the first boundary (R181). -/
  account : Option Account := none
  engineCount : Nat := 0
  mark : Engine := .updater
  share : Nat := 2
  repairs : List Repair := []
  scrubPos : Nat := 0
  singleBit : Counter := 0
  uncorrectable : Counter := 0
  last : Option LastBad := none
  latestBlock : BlockNo := 0
  latest : Account := {}
  repairsWritten : Counter := 0
  notKept : Counter := 0
  scrubRounds : Counter := 0
  deriving DecidableEq, Repr

/-! ## The whole part -/

/-- The state of the part, the queue of waiting commands among it. -/
structure State where
  timer : Timer := {}
  /-- R12: the capture port's current block. -/
  capture : Vector (List Sample) 16 := Vector.replicate 16 (List.replicate 32 0)
  /-- R16: the outgoing speaker frame; empty until the first boundary. -/
  speaker : List Byte := []
  links : Vector LinkState 3 := Vector.replicate 3 {}
  /-- R22: the link lock count, one for all links. -/
  linkLock : Nat := 3
  zones : Vector ZoneState 6 := Vector.replicate 6 {}
  beams : Vector BeamState 16 := Vector.replicate 16 {}
  /-- R62: the entries that are not ABSENT, in ascending beam, zone and position. -/
  segs : List Segment := []
  pool : Pool := {}
  /-- R165: the attached DRAM, in the canonical form of `Memory.wf`. -/
  mem : List Host.Cell := []
  work : Work := {}
  sched : Scheduler := {}
  /-- R147: the job list, head first. -/
  jobs : List Job := []
  port : Port := {}
  /-- R184: beams whose client write was granted in the current block. -/
  writeHold : BitVec 16 := 0
  /-- The MODEL's own: the argument of Config's free values (log entries 10, 11). -/
  draws : Nat := 0
  /-- The MODEL's own: the commands that wait, first in, first out. -/
  pending : List Instr := []
  deriving DecidableEq, Repr

/-- The part after power-on reset: every field at the value its chapter states, or the one the
assumption log names. -/
def State.reset : State := {}

/-- Why a step stops with a fault: the spec gives the part no fault that stops it (a refused command
is answered by status, R31), so there is no constructor. -/
inductive Fault where
  deriving DecidableEq, Repr

/-- Why a command has no meaning in the model. -/
inductive Refusal where
  /-- Raised by `exec` for a row that has no meaning yet; safe, since nothing is claimed of it. -/
  | notModelled (mnemonic : String)
  deriving DecidableEq, Repr

/-! ## Updates, one for each field -/

/-- Update the frame timer. -/
def State.modTimer (f : Timer → Timer) (s : State) : State := { s with timer := f s.timer }
/-- Replace the capture port's block. -/
def State.setCapture (v : Vector (List Sample) 16) (s : State) : State := { s with capture := v }
/-- Replace the outgoing speaker frame. -/
def State.setSpeaker (v : List Byte) (s : State) : State := { s with speaker := v }
/-- Update one link. -/
def State.modLink (l : Link) (f : LinkState → LinkState) (s : State) : State :=
  { s with links := s.links.set l (f s.links[l]) }
/-- Update every link. -/
def State.mapLinks (f : LinkState → LinkState) (s : State) : State :=
  { s with links := vmap f s.links }
/-- Replace the link lock count. -/
def State.setLinkLock (v : Nat) (s : State) : State := { s with linkLock := v }
/-- Update one zone. -/
def State.modZone (z : Zone) (f : ZoneState → ZoneState) (s : State) : State :=
  { s with zones := s.zones.set z (f s.zones[z]) }
/-- Update every zone. -/
def State.mapZones (f : ZoneState → ZoneState) (s : State) : State :=
  { s with zones := vmap f s.zones }
/-- Update one beam. -/
def State.modBeam (b : Beam) (f : BeamState → BeamState) (s : State) : State :=
  { s with beams := s.beams.set b (f s.beams[b]) }
/-- Update every beam. -/
def State.mapBeams (f : BeamState → BeamState) (s : State) : State :=
  { s with beams := vmap f s.beams }
/-- Replace the segment table. -/
def State.setSegs (v : List Segment) (s : State) : State := { s with segs := v }
/-- Update the page pool. -/
def State.modPool (f : Pool → Pool) (s : State) : State := { s with pool := f s.pool }
/-- Replace the DRAM contents. -/
def State.setMem (v : List Host.Cell) (s : State) : State := { s with mem := v }
/-- Update the estimator's block in progress. -/
def State.modWork (f : Work → Work) (s : State) : State := { s with work := f s.work }
/-- Update the scheduler. -/
def State.modSched (f : Scheduler → Scheduler) (s : State) : State := { s with sched := f s.sched }
/-- Replace the job list. -/
def State.setJobs (v : List Job) (s : State) : State := { s with jobs := v }
/-- Update the memory port. -/
def State.modPort (f : Port → Port) (s : State) : State := { s with port := f s.port }
/-- Replace the client-write holds of granted writes. -/
def State.setWriteHold (v : BitVec 16) (s : State) : State := { s with writeHold := v }
/-- Advance the draw counter. -/
def State.draw (s : State) : State := { s with draws := s.draws + 1 }
/-- Replace the queue. -/
def State.setPending (v : List Instr) (s : State) : State := { s with pending := v }

end Sys2Proof.Machine
end

