-- ==== Sys2Proof/Machine/Flags.lean ====
section
/-! DEFINITION. Every flag the chapters compute or raise: the notice flags (02 R37), the model state
(09 R149), the client-write hold (11 R184), the adaptation mask (07 R119) and the request (07 R116). -/

namespace Sys2Proof.Machine

/-! ## Notices -/

/-- R17: the notice byte bit of a flag. -/
def Notice.bit : Notice → Nat
  | .beamDiverged => 0
  | .jobDone => 1
  | .anchorTaken => 2
  | .storeFault => 3
  | .captureState => 4
  | .poolLow => 5
  | .slip => 6
  | .overrun => 7

/-- A notice flag as a byte with its bit set. -/
def Notice.byte (n : Notice) : Byte := BitVec.twoPow 8 n.bit

/-- R37: set a flag of a link; a raise of a set flag merges. -/
def LinkState.raise (n : Notice) (k : LinkState) : LinkState :=
  { k with notices := k.notices ||| n.byte }

/-- R37: raise a flag in one link. -/
def State.raise (l : Link) (n : Notice) (s : State) : State := s.modLink l (LinkState.raise n)

/-- R37: raise a flag in all three links. -/
def State.raiseAll (n : Notice) (s : State) : State := s.mapLinks (LinkState.raise n)

/-- R38: the notice byte as a frame shows it. -/
def LinkState.noticeByte (k : LinkState) : Byte := k.notices &&& k.mask

/-! ## Jobs of a beam -/

/-- The beam a job works on (R147). -/
def Job.beam : Job → Beam
  | .capture b _ _ _ => b
  | .restore b _ _ _ => b
  | .clear b _ _ => b
  | .fill b _ _ _ _ _ _ => b
  | .zero b _ _ _ _ => b

/-- R149: the jobs that the model state follows. -/
def Job.isCopy : Job → Bool
  | .capture _ _ _ _ => true
  | .restore _ _ _ _ => true
  | .clear _ _ _ => true
  | .fill _ _ _ _ _ _ _ => false
  | .zero _ _ _ _ _ => false

/-- R148: the restore-class group. -/
def Job.isRestoreClass : Job → Bool
  | .capture _ _ _ _ => false
  | .restore _ _ _ _ => true
  | .clear _ _ _ => true
  | .fill _ _ _ _ _ _ _ => false
  | .zero _ _ _ _ _ => false

/-- R119: the jobs that mask their beam: all but ZERO. -/
def Job.masks : Job → Bool
  | .capture _ _ _ _ => true
  | .restore _ _ _ _ => true
  | .clear _ _ _ => true
  | .fill _ _ _ _ _ _ _ => true
  | .zero _ _ _ _ _ => false

/-- R147: a job from a command: its origin is a link. -/
def Job.fromCommand : Job → Bool
  | .capture _ (.command _) _ _ => true
  | .capture _ .trigger _ _ => false
  | .capture _ .divergence _ _ => false
  | .restore _ (.command _) _ _ => true
  | .restore _ .trigger _ _ => false
  | .restore _ .divergence _ _ => false
  | .clear _ (.command _) _ => true
  | .clear _ .trigger _ => false
  | .clear _ .divergence _ => false
  | .fill _ _ _ _ _ _ _ => true
  | .zero _ _ _ _ _ => true

/-- The model state that goes with a listed job (R149). -/
def Job.modelState : Job → ModelState
  | .capture _ _ _ _ => .capturing
  | .restore _ _ _ _ => .restoring
  | .clear _ _ _ => .clearing
  | .fill _ _ _ _ _ _ _ => .idle
  | .zero _ _ _ _ _ => .idle

/-- R149: a beam's model state follows its listed CAPTURE, RESTORE or CLEAR job. -/
def State.modelState (s : State) (b : Beam) : ModelState :=
  match s.jobs.find? fun j => j.isCopy && j.beam == b with
  | some j => j.modelState
  | none => .idle

/-- The beam has a CAPTURE, RESTORE or CLEAR in the list. -/
def State.hasCopyJob (s : State) (b : Beam) : Bool := s.jobs.any fun j => j.isCopy && j.beam == b

/-- The beam has a CAPTURE, RESTORE, CLEAR or FILL in the list. -/
def State.hasMaskingJob (s : State) (b : Beam) : Bool := s.jobs.any fun j => j.masks && j.beam == b

/-- The beam has a job of any kind in the list. -/
def State.hasJob (s : State) (b : Beam) : Bool := s.jobs.any fun j => j.beam == b

/-- R147: the listed jobs that came from commands. -/
def State.commandJobs (s : State) : Nat := s.jobs.countP Job.fromCommand

/-- The model state allows estimator reads and the divergence watch: IDLE or CAPTURING
(R82, R106). -/
def ModelState.readable : ModelState → Bool
  | .idle => true
  | .capturing => true
  | .restoring => false
  | .clearing => false

/-! ## The mask and the request -/

/-- R184: the link has a write to the beam pending. -/
def LinkState.writesTo (b : Beam) (k : LinkState) : Bool :=
  match k.request with
  | some ⟨.write _, a, _, _⟩ => a.beam == b
  | _ => false

/-- R184: the client-write source: from the taking of a write to the boundary that ends the block of
its grant. -/
def State.writeHeld (s : State) (b : Beam) : Bool :=
  s.writeHold.getLsbD b.val || s.links.toList.any (LinkState.writesTo b)

/-- R119, freeze source: the beam is in the freeze mask of any link. -/
def State.frozen (s : State) (b : Beam) : Bool :=
  s.links.toList.any fun k => k.freeze.getLsbD b.val

/-- R119: a beam is masked when any of the seven sources holds, read as they stand. -/
def State.masked (s : State) (b : Beam) : Bool :=
  s.frozen b || !s.beams[b].enable || s.beams[b].set.mu == 0
    || s.beams[b].talk.state != .farOnly || s.hasMaskingJob b || s.writeHeld b
    || s.timer.status != .good

/-- R116: a beam's request is present. -/
def BeamState.requests (k : BeamState) : Bool :=
  k.latch || (k.set.trigger == .level && k.talk.request)

/-- The set of beams for which a test holds, bit b for beam b (R33). -/
def beamSet (p : Beam → Bool) : BitVec 16 :=
  BitVec.ofNat 16 (((List.finRange 16).map fun b => if p b then 2 ^ b.val else 0).sum)

end Sys2Proof.Machine
end

