-- ==== Sys2Proof/Machine/Memory.lean ====
section
/-! DEFINITION. The attached DRAM as cells in canonical form, and its page words with their check
bytes (10, the page word; R165, R166). -/

namespace Sys2Proof.Machine

/-! ## Bytes -/

/-- What an unlisted byte reads as: 0. The spec leaves unwritten contents undefined and reads none of
them (R67, R181): DESIGN CHOICE, log entry 9. -/
def unwrittenByte : Byte := 0

/-- Read one byte. -/
def readByte : List Host.Cell → Nat → Byte
  | [], _ => unwrittenByte
  | (k, v) :: rest, a => if k = a then v else readByte rest a

/-- Write one byte, keeping the canonical form. -/
def writeByte : List Host.Cell → Nat → Byte → List Host.Cell
  | [], a, v => if v = unwrittenByte then [] else [(a, v)]
  | (k, x) :: rest, a, v =>
    if a < k then
      if v = unwrittenByte then (k, x) :: rest else (a, v) :: (k, x) :: rest
    else if a = k then
      if v = unwrittenByte then rest else (a, v) :: rest
    else (k, x) :: writeByte rest a v

/-- The canonical form above an address: addresses strictly rising, no entry equal to what an
unlisted address reads as. -/
def Memory.wfFrom : Nat → List Host.Cell → Bool
  | _, [] => true
  | lo, (k, v) :: rest => lo ≤ k && v != unwrittenByte && Memory.wfFrom (k + 1) rest

/-- The canonical form of the DRAM contents. -/
def Memory.wf (m : List Host.Cell) : Bool := Memory.wfFrom 0 m

/-- Write bytes at consecutive addresses. -/
def writeBytes : List Host.Cell → Nat → List Byte → List Host.Cell
  | m, _, [] => m
  | m, a, b :: bs => writeBytes (writeByte m a b) (a + 1) bs

/-- The first byte of word i of page p (log entry 9). -/
def wordBase (p : Page) (i : Nat) : Nat := 9 * (128 * p.val + i)

/-! ## Check bytes -/

/-- R165: the code positions of the data bits, data bit 0 first: 1 to 71 but for the powers of two. -/
def dataPositions : List Nat :=
  (List.range 72).filter fun p => p != 0 && !([1, 2, 4, 8, 16, 32, 64].contains p)

/-- The data bits with their code positions. -/
def dataBits (d : DataWord) : List (Nat × Bool) :=
  List.zipWith (fun p i => (p, d.getLsbD i)) dataPositions (List.range 64)

/-- The exclusive-OR of a list of bits. -/
def xorAll (bs : List Bool) : Bool := bs.foldl xor false

/-- R165: check bit m, over the data bits whose code position has bit m set. -/
def checkBit (d : DataWord) (m : Nat) : Bool :=
  xorAll (((dataBits d).filter fun q => q.1.testBit m).map Prod.snd)

/-- R165: c0 to c6. -/
def checkBits (d : DataWord) : List Bool := (List.range 7).map (checkBit d)

/-- Bits as a byte, bit 0 first. -/
def byteOfBits (bs : List Bool) : Byte := BitVec.ofNat 8 (bs.foldr (fun b n => b.toNat + 2 * n) 0)

/-- The exclusive-OR of the 64 data bits. -/
def dataParity (d : DataWord) : Bool := xorAll ((List.range 64).map d.getLsbD)

/-- R165: the check byte: c0 to c6 in bits 0 to 6, the overall parity p in bit 7. -/
def checkByte (d : DataWord) : Byte :=
  let cs := checkBits d
  byteOfBits (cs ++ [xor (dataParity d) (xorAll cs)])

/-- R166: the class of a word read, with the value handed on. -/
inductive WordRead where
  | clean (v : DataWord)
  | corrected (v : DataWord)
  | uncorrectable
  deriving DecidableEq, Repr

/-- R166: the value handed on. -/
def WordRead.value : WordRead → DataWord
  | .clean v => v
  | .corrected v => v
  | .uncorrectable => 0

/-- R166: the syndrome: bit m is 1 when the recomputed cm differs from the stored one. -/
def syndrome (d : DataWord) (c : Byte) : Nat :=
  ((List.range 7).map fun m => if checkBit d m != c.getLsbD m then 2 ^ m else 0).sum

/-- R166: the exclusive-OR of all 72 stored bits. -/
def parityCheck (d : DataWord) (c : Byte) : Bool :=
  xor (dataParity d) (xorAll ((List.range 8).map c.getLsbD))

/-- R166: the data bits after inverting the bit at a code position; a position of a check bit or of p
leaves the data as stored. -/
def flipAt (d : DataWord) (pos : Nat) : DataWord :=
  match dataPositions.findIdx? (· == pos) with
  | some i => d ^^^ BitVec.twoPow 64 i
  | none => d

/-- R166: the classification of a stored word. -/
def classify (d : DataWord) (c : Byte) : WordRead :=
  let syn := syndrome d c
  if parityCheck d c then
    if syn ≤ 71 then .corrected (flipAt d syn) else .uncorrectable
  else if syn = 0 then .clean d
  else .uncorrectable

/-! ## Words and pages -/

/-- The eight data bytes and the check byte of a word, as the model numbers them. -/
def wordBytes (d : DataWord) : List Byte :=
  ((List.range 8).map fun i => d.extractLsb' (8 * i) 8) ++ [checkByte d]

/-- R165: write word i of page p whole, data and check byte together. -/
def writeWord (m : List Host.Cell) (p : Page) (i : Nat) (d : DataWord) : List Host.Cell :=
  writeBytes m (wordBase p i) (wordBytes d)

/-- The stored data bits of word i of page p. -/
def storedData (m : List Host.Cell) (p : Page) (i : Nat) : DataWord :=
  BitVec.ofNat 64 (((List.range 8).map fun k => (readByte m (wordBase p i + k)).toNat * 256 ^ k).sum)

/-- The stored check byte of word i of page p. -/
def storedCheck (m : List Host.Cell) (p : Page) (i : Nat) : Byte := readByte m (wordBase p i + 8)

/-- R166: read word i of page p. -/
def readWord (m : List Host.Cell) (p : Page) (i : Nat) : WordRead :=
  classify (storedData m p i) (storedCheck m p i)

/-- Write words to a page from word i on. -/
def writeWords : List Host.Cell → Page → Nat → List DataWord → List Host.Cell
  | m, _, _, [] => m
  | m, p, i, d :: ds => writeWords (writeWord m p i d) p (i + 1) ds

/-- The low half of a word: coefficient 2i. -/
def lowHalf (d : DataWord) : Coef := d.extractLsb' 0 32

/-- The high half of a word: coefficient 2i+1. -/
def highHalf (d : DataWord) : Coef := d.extractLsb' 32 32

/-- A word of two coefficients. -/
def packWord (lo hi : Coef) : DataWord := hi ++ lo

/-- The words of a list of coefficients, two a word (10, the page word). -/
def packCoefs : List Coef → List DataWord
  | lo :: hi :: rest => packWord lo hi :: packCoefs rest
  | [lo] => [packWord lo 0]
  | [] => []

/-- The coefficients of a list of words. -/
def unpackWords (ds : List DataWord) : List Coef := ds.flatMap fun d => [lowHalf d, highHalf d]

end Sys2Proof.Machine
end

