-- ==== Sys2Proof/Machine/Ops.lean ====
section
/-! DEFINITION. The named operations the chapters share: the segment table and the page pool (04), the
memory port's handling of what it reads and writes (10), and the lanes (07). -/

namespace Sys2Proof.Machine

/-! ## Segment table -/

/-- The pass point of an entry within its beam, (zone, position) as 64·zone + position. -/
def SegAddr.point (a : SegAddr) : Nat := 64 * a.zone.val + a.pos.val

/-- The place of an entry in the table's order: beam, zone, position. -/
def SegAddr.index (a : SegAddr) : Nat := 384 * a.beam.val + a.point

/-- The entry at an address, if it is not ABSENT (R62). -/
def State.seg? (s : State) (a : SegAddr) : Option Segment := s.segs.find? fun e => e.addr == a

/-- Change the entry at an address. -/
def State.modSeg (a : SegAddr) (f : Segment → Segment) (s : State) : State :=
  s.setSegs (s.segs.map fun e => if e.addr == a then f e else e)

/-- Put an entry at its place in the table. -/
def insertSeg (e : Segment) : List Segment → List Segment
  | [] => [e]
  | x :: xs =>
    if e.addr.index < x.addr.index then e :: x :: xs
    else if e.addr = x.addr then e :: xs
    else x :: insertSeg e xs

/-- The non-ABSENT entries of a beam, ascending zone and position. -/
def State.segsOf (s : State) (b : Beam) : List Segment := s.segs.filter fun e => e.addr.beam == b

/-- The non-ABSENT entries of a path, ascending position. -/
def State.pathSegs (s : State) (b : Beam) (z : Zone) : List Segment :=
  s.segs.filter fun e => e.addr.beam == b && e.addr.zone == z

/-- R60: the path is open. -/
def State.isOpen (s : State) (b : Beam) (z : Zone) : Bool := 0 < s.beams[b].windows[z]

/-- R63: an entry is MAPPED. -/
def Segment.isMapped (e : Segment) : Bool := e.state == .mapped

/-- R124: an entry is eligible when it is MAPPED and not pinned. -/
def Segment.isEligible (e : Segment) : Bool := e.isMapped && !e.pinned

/-- R124: the eligible segments of a beam in pass order, over its open paths. -/
def State.eligible (s : State) (b : Beam) : List Segment :=
  s.segs.filter fun e => e.addr.beam == b && s.isOpen b e.addr.zone && e.isEligible

/-- R124: the segments remaining in a pass at a position. -/
def State.remaining (s : State) (b : Beam) (point : Nat) : List Segment :=
  (s.eligible b).filter fun e => point ≤ e.addr.point

/-- R69: the active segment count. -/
def State.activeCount (s : State) : Nat := s.segs.countP fun e => s.beams[e.addr.beam].enable

/-! ## Page pool -/

/-- R65: the pages in a role. -/
def pagesHeld (segs : List Segment) : List Page := segs.flatMap fun e => e.page :: e.anchor.toList

/-- R65: the free count. -/
def State.freeCount (s : State) : Nat := Config.pageCount - (pagesHeld s.segs).length

/-- R66: the n lowest-numbered pages outside `used`, searched from page 8192 - fuel on. -/
def lowestFreeFrom (used : List Page) : Nat → Nat → List Page
  | 0, _ => []
  | _ + 1, 0 => []
  | fuel + 1, n + 1 =>
    let p : Page := ⟨8191 - fuel, by omega⟩
    if used.contains p then lowestFreeFrom used fuel (n + 1)
    else p :: lowestFreeFrom used fuel n

/-- R66: the n lowest-numbered free pages, in ascending order. -/
def State.lowestFree (s : State) (n : Nat) : List Page :=
  lowestFreeFrom (pagesHeld s.segs) Config.pageCount n

/-- R65: the role of a page. -/
inductive PageRole where
  | free
  | segment (a : SegAddr)
  | anchor (a : SegAddr)
  deriving DecidableEq, Repr

/-- R65: the role of a page, read from the entry that names it. -/
def State.role (s : State) (p : Page) : PageRole :=
  match s.segs.find? fun e => e.page == p with
  | some e => .segment e.addr
  | none =>
    match s.segs.find? fun e => e.anchor == some p with
    | some e => .anchor e.addr
    | none => .free

/-- R67: clear the written marks of pages just allocated. -/
def Pool.clearMarks (ps : List Page) (k : Pool) : Pool :=
  { k with written := ps.foldl (fun w p => w &&& ~~~(BitVec.twoPow 8192 p.val)) k.written }

/-- R67: set the written mark of a page. -/
def Pool.setMark (p : Page) (k : Pool) : Pool :=
  { k with written := k.written ||| BitVec.twoPow 8192 p.val }

/-- R68: after an allocation of n pages. -/
def State.noteAllocation (n : Nat) (s : State) : State :=
  if 0 < n && s.freeCount < Config.freeLowMark then
    (s.raiseAll .poolLow).modPool fun k => { k with lowRaises := k.lowRaises.bump }
  else s

/-- R65, R172: a page's repair-list entries go, at its release or at a write to it. -/
def State.dropRepairs (p : Page) (s : State) : State :=
  s.modPort fun k => { k with repairs := k.repairs.filter fun r => r.page != p }

/-- The same for several pages. -/
def State.dropRepairsOf (ps : List Page) (s : State) : State :=
  ps.foldl (fun s p => s.dropRepairs p) s

/-! ## What the port does with a word it reads -/

/-- R173: offer a correction to the repair list. A word already listed adds nothing (log entry 19 for
a full list that holds it). -/
def Port.offer (p : Page) (i : Nat) (v : DataWord) (k : Port) : Port :=
  if k.repairs.any fun r => r.page == p && r.word == i then k
  else if k.repairs.length < Config.repairPlaces then
    { k with repairs := k.repairs ++ [⟨p, i, v⟩] }
  else { k with notKept := k.notKept.bump }

/-- R153, R156: set the fault mark of a beam's listed RESTORE or CAPTURE. -/
def Job.markFault (b : Beam) : Job → Job
  | .capture c o n f => .capture c o n (f || c == b)
  | .restore c o n f => .restore c o n (f || c == b)
  | .clear c o n => .clear c o n
  | .fill c z f l v n k => .fill c z f l v n k
  | .zero c z ps n k => .zero c z ps n k

/-- A listed RESTORE or CAPTURE of the beam, whose fault mark R174 sets. -/
def Job.takesFault (b : Beam) : Job → Bool
  | .capture c _ _ _ => c == b
  | .restore c _ _ _ => c == b
  | .clear _ _ _ => false
  | .fill _ _ _ _ _ _ _ => false
  | .zero _ _ _ _ _ => false

/-- R174, step 3: the mark an uncorrectable word leaves, by the role of its page. -/
def State.markPage (p : Page) (s : State) : State :=
  match s.role p with
  | .free => s
  | .segment a => s.modSeg a fun e => { e with damaged := true }
  | .anchor a =>
    if s.jobs.any (Job.takesFault a.beam) then s.setJobs (s.jobs.map (Job.markFault a.beam))
    else s.modBeam a.beam fun k => { k with anchor := { k.anchor with valid := false } }

/-- R174: an uncorrectable word: count and record it, raise STORE FAULT in all three links, mark its
page. -/
def State.uncorrectableWord (r : Reader) (p : Page) (i : Nat) (s : State) : State :=
  ((s.modPort fun k =>
      { k with uncorrectable := k.uncorrectable.bump, last := some ⟨p, i, s.timer.block, r⟩ }).raiseAll
    .storeFault).markPage p

/-- R173: a corrected word: count it and, unless it is a boundary word of a store write (R176), offer
it for repair. -/
def State.correctedWord (offer : Bool) (p : Page) (i : Nat) (v : DataWord) (s : State) : State :=
  s.modPort fun k =>
    let k := { k with singleBit := k.singleBit.bump }
    if offer then k.offer p i v else k

/-- What the port does with one word it has classified. -/
def State.noteWord (r : Reader) (offer : Bool) (p : Page) (s : State) (w : Nat × WordRead) : State :=
  match w.2 with
  | .clean _ => s
  | .corrected v => s.correctedWord offer p w.1 v
  | .uncorrectable => s.uncorrectableWord r p w.1

/-- What the port does with the words of one read, in ascending word order. R174 states that order for
uncorrectable words; that the corrected words are offered to the repair list in it too is the model's
DESIGN CHOICE (log entry 29). -/
def State.noteWords (r : Reader) (offer : Bool) (p : Page) (ws : List (Nat × WordRead)) (s : State) :
    State :=
  ws.foldl (State.noteWord r offer p) s

/-- The words of a page as a read returns them, with their classes (R166). -/
def State.readWords (s : State) (p : Page) (is : List Nat) : List (Nat × WordRead) :=
  is.map fun i => (i, readWord s.mem p i)

/-- How many words of a read were uncorrectable. -/
def badWords (ws : List (Nat × WordRead)) : Nat := ws.countP fun w => w.2 == .uncorrectable

/-- The word numbers of a whole page. -/
def allWords : List Nat := List.range 128

/-! ## Writes -/

/-- R175: a full-page write: the words, the written mark, the repair list and the damaged flag of the
entry whose segment page it is. -/
def State.fullWrite (p : Page) (ds : List DataWord) (s : State) : State :=
  let s := s.setMem (writeWords s.mem p 0 ds)
  let s := s.modPool (Pool.setMark p)
  let s := s.dropRepairs p
  s.setSegs (s.segs.map fun e => if e.page == p then { e with damaged := false } else e)

/-- R175: a partial write of one word; mark and damaged flag stay. -/
def State.partialWrite (p : Page) (i : Nat) (d : DataWord) (s : State) : State :=
  (s.setMem (writeWord s.mem p i d)).dropRepairs p

/-- A page of 256 equal coefficients (R73, R158, R159). -/
def constantPage (v : Coef) : List DataWord := List.replicate 128 (packWord v v)

/-- R167: the transfers an account has counted. -/
def Account.total (a : Account) : Nat := a.segmentReads + a.store + a.copy + a.adaptation + a.scrub

/-- R167: count transfers in the block account. -/
def State.charge (f : Account → Account) (s : State) : State :=
  s.modPort fun k => { k with account := k.account.map f }

/-! ## Lanes -/

/-- R120: the lane a beam holds, if it is in service. -/
def State.laneOf (s : State) (b : Beam) : Option LaneNo :=
  (List.finRange 4).find? fun n => match s.sched.lanes[n] with
    | some p => p.beam == b
    | none => false

/-- The beam is in the in-service set. -/
def State.inService (s : State) (b : Beam) : Bool := (s.laneOf b).isSome

/-- Set a lane's record. -/
def State.setLane (n : LaneNo) (p : Option Pass) (s : State) : State :=
  s.modSched fun k => { k with lanes := k.lanes.set n p }

/-- R128: withdraw the beam's entries not yet granted. -/
def State.withdraw (b : Beam) (s : State) : State :=
  s.modSched fun k => { k with demand := k.demand.filter fun d => d.addr.beam != b }

/-- R132: abandon a beam's pass at once; its latch is not touched. -/
def State.abandonPass (b : Beam) (s : State) : State :=
  match s.laneOf b with
  | none => s
  | some n =>
    ((s.setLane n none).withdraw b).modSched fun k => { k with abandons := k.abandons.bump }

/-- Set or clear a beam's request latch (R116). -/
def State.setLatch (b : Beam) (v : Bool) (s : State) : State := s.modBeam b fun k => { k with latch := v }

/-- R129: the pass of a lane completes. -/
def State.completePass (n : LaneNo) (s : State) : State :=
  match s.sched.lanes[n] with
  | none => s
  | some p =>
    let s := s.setLane n none
    let s := s.modBeam p.beam fun k => { k with passes := k.passes.bump }
    match s.sched.rotation with
    | .rotating => s.modSched fun k => { k with bottom := p.beam }
    | .fixed => s

end Sys2Proof.Machine
end

