-- ==== Sys2Proof/Machine/CopyUnit.lean ====
section
/-! DEFINITION. The model copy unit (09): the order of the job list, queueing, abort and completion of
jobs, and the work of one grant. -/

namespace Sys2Proof.Machine

/-- R148: a new restore-class job goes after the last restore-class job, any other at the end. -/
def enqueue (j : Job) (js : List Job) : List Job :=
  if j.isRestoreClass then js.takeWhile Job.isRestoreClass ++ j :: js.dropWhile Job.isRestoreClass
  else js ++ [j]

/-- R150: the entry of the first qualifying page of a job at or after its progress, as the segment
table stands. -/
def State.jobNext (s : State) : Job → Option Segment
  | .capture b _ next _ =>
    s.segs.find? fun e => e.addr.beam == b && e.isMapped && next ≤ e.addr.point && e.anchor.isSome
  | .restore b _ next _ =>
    s.segs.find? fun e => e.addr.beam == b && e.isMapped && next ≤ e.addr.point && e.anchor.isSome
  | .clear b _ next =>
    s.segs.find? fun e => e.addr.beam == b && e.isMapped && next ≤ e.addr.point
  | .fill b z _ last _ next _ =>
    s.segs.find? fun e => e.addr.beam == b && e.addr.zone == z && e.isMapped
      && next ≤ e.addr.pos.val && e.addr.pos.val ≤ last.val
  | .zero b z ps next _ => (ps.drop next).findSome? fun p => s.seg? ⟨b, z, p⟩

/-- R151: the job has work left. -/
def State.hasWork (s : State) (j : Job) : Bool := (s.jobNext j).isSome

/-- Set a job's progress just past an entry (R150). -/
def Job.past (e : Segment) : Job → Job
  | .capture b o _ f => .capture b o (e.addr.point + 1) f
  | .restore b o _ f => .restore b o (e.addr.point + 1) f
  | .clear b o _ => .clear b o (e.addr.point + 1)
  | .fill b z first last v _ l => .fill b z first last v (e.addr.pos.val + 1) l
  | .zero b z ps _ l => .zero b z ps (ps.findIdx (· == e.addr.pos) + 1) l

/-- Set a job's progress at an entry. -/
def Job.at (e : Segment) : Job → Job
  | .capture b o _ f => .capture b o e.addr.point f
  | .restore b o _ f => .restore b o e.addr.point f
  | .clear b o _ => .clear b o e.addr.point
  | .fill b z first last v _ l => .fill b z first last v e.addr.pos.val l
  | .zero b z ps _ l => .zero b z ps (ps.findIdx (· == e.addr.pos)) l

/-- R150: a job after the page of an entry has been carried out: its progress names the next
qualifying page, or lies past the page when none is left (log entry 13). -/
def State.advanceJob (s : State) (e : Segment) (j : Job) : Job :=
  match s.jobNext (j.past e) with
  | some e' => (j.past e).at e'
  | none => j.past e

/-! ## Completion -/

/-- R37: where JOB DONE is raised for a job. -/
def State.raiseJobDone (j : Job) (s : State) : State :=
  let toLink (l : Link) : State :=
    match s.links[l].mode with
    | .locked => s.raise l .jobDone
    | .search => s.raiseAll .jobDone
  let byOrigin (o : Origin) : State :=
    match o with
    | .command l => toLink l
    | .divergence => s.raiseAll .jobDone
    | .trigger => s
  match j with
  | .capture _ o _ _ => byOrigin o
  | .restore _ o _ _ => byOrigin o
  | .clear _ o _ => byOrigin o
  | .fill _ _ _ _ _ _ l => toLink l
  | .zero _ _ _ _ l => toLink l

/-- R153: the anchor record of a beam whose CAPTURE completes with its fault mark clear. -/
def State.takeAnchor (b : Beam) (s : State) : State :=
  (s.modBeam b fun k =>
    { k with anchor := { k.anchor with
        valid := true, block := s.timer.block, captures := k.anchor.captures.bump } }).raiseAll
    .anchorTaken

/-- R156: the anchor record of a beam whose RESTORE completes with its fault mark set. -/
def State.dropAnchor (b : Beam) (s : State) : State :=
  s.modBeam b fun k => { k with anchor := { k.anchor with valid := false } }

/-- R151: the divergence run of a beam becomes 0. -/
def State.clearDivergenceRun (b : Beam) (s : State) : State :=
  s.modBeam b fun k => { k with talk := { k.talk with divergenceRun := 0 } }

/-- R151: what takes effect when a job, already out of the list, completes. -/
def State.completeJob (j : Job) (s : State) : State :=
  let s :=
    match j with
    | .capture b _ _ fault => if fault then s else s.takeAnchor b
    | .restore b _ _ fault =>
      let s := (s.setLatch b true).clearDivergenceRun b
      if fault then s.dropAnchor b else s
    | .clear b _ _ => (s.setLatch b true).clearDivergenceRun b
    | .fill b _ _ _ _ _ _ => s.setLatch b true
    | .zero b _ _ _ _ => s.setLatch b true
  s.raiseJobDone j

/-- R151: while the head job has no work left it leaves the list and completes, and the next becomes
head. The fuel is the number of jobs. -/
def State.settleFuel : Nat → State → State
  | 0, s => s
  | n + 1, s =>
    match s.jobs with
    | [] => s
    | j :: rest => if s.hasWork j then s else State.settleFuel n ((s.setJobs rest).completeJob j)

/-- R151: completions that a change of the head of the list brings about. -/
def State.settle (s : State) : State := State.settleFuel s.jobs.length s

/-! ## Queueing and abort -/

/-- R109: the beam's next evaluation finds that a CAPTURE, RESTORE or CLEAR was queued (log entry
26). -/
def State.noteCopyQueued (b : Beam) (s : State) : State :=
  s.modBeam b fun k => { k with talk := { k.talk with copyQueued := true } }

/-- R132, R153, R109: what queueing a job does to its beam before the job is placed: every kind but
ZERO abandons the pass, a CAPTURE makes the anchor INVALID, and a CAPTURE, RESTORE or CLEAR is noted
for the capture run. -/
def State.beforeQueue (j : Job) (s : State) : State :=
  match j with
  | .capture b _ _ _ => ((s.abandonPass b).dropAnchor b).noteCopyQueued b
  | .restore b _ _ _ => (s.abandonPass b).noteCopyQueued b
  | .clear b _ _ => (s.abandonPass b).noteCopyQueued b
  | .fill b _ _ _ _ _ _ => s.abandonPass b
  | .zero _ _ _ _ _ => s

/-- Place a job in the list (R148) with the effects of its queueing, and complete it at once if it is
the head and has no work (R151). -/
def State.queueJob (j : Job) (s : State) : State :=
  let s := s.beforeQueue j
  (s.setJobs (enqueue j s.jobs)).settle

/-- R154: the job is a CAPTURE of the beam. -/
def Job.isCaptureOf (b : Beam) : Job → Bool
  | .capture c _ _ _ => c == b
  | .restore _ _ _ _ => false
  | .clear _ _ _ => false
  | .fill _ _ _ _ _ _ _ => false
  | .zero _ _ _ _ _ => false

/-- R154: abort a beam's listed CAPTURE, if there is one. -/
def State.abortCapture (b : Beam) (s : State) : State :=
  if s.jobs.any (Job.isCaptureOf b) then
    let s := s.setJobs (s.jobs.filter fun j => !j.isCaptureOf b)
    (s.modBeam b fun k =>
      { k with anchor := { k.anchor with aborted := k.anchor.aborted.bump } }).settle
  else s

/-! ## One grant -/

/-- R150: transfers of one page of the job: two for a copy pair. -/
def Job.transfers : Job → Nat
  | .capture _ _ _ _ => 2
  | .restore _ _ _ _ => 2
  | .clear _ _ _ => 1
  | .fill _ _ _ _ _ _ _ => 1
  | .zero _ _ _ _ _ => 1

/-- R153, R156: a copy pair: read page p, note its words with reader COPY, write them to page q, each
clean as stored, corrected as corrected, uncorrectable as zero. R173, R175: the read's corrections are
offered to the repair list before the entries of page q are removed. DESIGN CHOICE (log entry 30). -/
def State.copyPage (p q : Page) (s : State) : State :=
  let ws := s.readWords p allWords
  (s.noteWords .copy true p ws).fullWrite q (ws.map fun w => w.2.value)

/-- R153: set the fault mark of the head CAPTURE when its own read found an uncorrectable word. -/
def State.faultHead (bad : Bool) (s : State) : State :=
  match s.jobs with
  | .capture b o n f :: rest => s.setJobs (.capture b o n (f || bad) :: rest)
  | _ => s

/-- R150: carry out the page of an entry for the head job. -/
def State.jobPage (j : Job) (e : Segment) (s : State) : State :=
  match j with
  | .capture _ _ _ _ =>
    match e.anchor with
    | some q =>
      let bad := 0 < badWords (s.readWords e.page allWords)
      (s.copyPage e.page q).faultHead bad
    | none => s
  | .restore _ _ _ _ =>
    match e.anchor with
    | some q => s.copyPage q e.page
    | none => s
  | .clear _ _ _ => s.fullWrite e.page (constantPage 0)
  | .fill _ _ _ _ v _ _ => s.fullWrite e.page (constantPage v)
  | .zero _ _ _ _ _ =>
    (s.fullWrite e.page (constantPage 0)).modSeg e.addr fun e => { e with state := .mapped }

/-- R150: after the page of an entry, move the head job's progress past it. -/
def State.advanceHead (e : Segment) (s : State) : State :=
  match s.jobs with
  | [] => s
  | j :: rest => s.setJobs (s.advanceJob e j :: rest)

/-- R150, R151: one grant to the copy unit: carry out one page of the head job, move its progress, and
complete it if that was its last page. -/
def State.serveCopyUnit (s : State) : State :=
  match s.jobs with
  | [] => s
  | j :: _ =>
    match s.jobNext j with
    | none => s
    | some e =>
      let s := s.charge fun a => { a with copy := a.copy + j.transfers }
      ((s.jobPage j e).advanceHead e).settle

end Sys2Proof.Machine
end

