-- ==== Sys2Proof/WellFormed.lean ====
section
/-! DEFINITION. Which terms of `Instr` stand for something that can be commanded: record lengths that
02 R17 allows, an unknown command number that is unknown (R29), and event rows within a step that can
hold the event (95_what_each_step_holds). -/

namespace Sys2Proof

/-- A carrier that can make a block boundary (R4 to R10). -/
def Carrier.canMakeBoundary : Carrier → Bool
  | .captureFrame _ _ => true
  | .watchExpiry => true
  | .freeRunning => true
  | .segmentRead => false
  | .inboundFrame _ _ => false

/-- A carrier that can evaluate a beam: evaluations happen only in GOOD blocks (R99), whose boundary
a capture frame makes (95, TALK_EVALUATION). -/
def Carrier.canEvaluate : Carrier → Bool
  | .segmentRead => true
  | .captureFrame _ _ => true
  | .watchExpiry => false
  | .freeRunning => false
  | .inboundFrame _ _ => false

/-- A carrier that can form a demand list (95, DEMAND_LIST_FORMATION). -/
def Carrier.canForm : Carrier → Bool
  | .segmentRead => true
  | .captureFrame _ _ => true
  | .watchExpiry => true
  | .freeRunning => true
  | .inboundFrame _ _ => false

/-- A carrier within which a link can lapse: an inbound frame of that link or a boundary (R27). -/
def Carrier.canLapse (l : Link) : Carrier → Bool
  | .inboundFrame m _ => m == l
  | .captureFrame _ _ => true
  | .watchExpiry => true
  | .freeRunning => true
  | .segmentRead => false

/-- R17: the longest parameter length of a command record. -/
def maxParams : Nat := 261

/-- R29: a command number with no command in R32's table. -/
def unknownNumber (n : Byte) : Bool := n == 0 || 32 < n.toNat

/-- Well-formedness. A row not named here has no check: each of its operand values can be
commanded, and a value out of a chapter's range is refused by status. -/
def Instr.wellFormed : Instr → Bool
  | .setReceive _ _ _ beams => 1 + beams.length ≤ maxParams
  | .writeCoefficients _ _ _ _ _ _ _ values => 5 + 4 * values.length ≤ maxParams
  | .unknownCommand _ _ number params => unknownNumber number && params.length ≤ maxParams
  | .linkLapse l within => within.canLapse l
  | .talkStateChange _ within => within.canEvaluate
  | .divergenceDeclared _ within => within.canEvaluate
  | .captureTrigger _ within => within.canEvaluate
  | .holdLimitAbandon _ within => within.canForm
  | _ => true

end Sys2Proof
end

