-- ==== Sys2Proof/Machine/Operands.lean ====
section
/-! DEFINITION. The operand forms of the client commands: record bytes to commands and back (02 R17,
R32, R33 and each chapter's parameters), parameter bytes to beams, zones and ranges, and responses
with their statuses (R31). -/

namespace Sys2Proof.Machine

/-! ## Statuses and responses -/

/-- R31: the thirteen statuses. -/
inductive Status where
  | done
  | clamped
  | badArgument
  | unknownCommand
  | malformed
  | beamBusy
  | poolShort
  | overLimit
  | jobListFull
  | notMapped
  | noAnchor
  | windowConflict
  | storeFault
  deriving DecidableEq, Repr

/-- R31: the code of a status. -/
def Status.code : Status → Byte
  | .done => 0
  | .clamped => 1
  | .badArgument => 2
  | .unknownCommand => 3
  | .malformed => 4
  | .beamBusy => 5
  | .poolShort => 6
  | .overLimit => 7
  | .jobListFull => 8
  | .notMapped => 9
  | .noAnchor => 10
  | .windowConflict => 11
  | .storeFault => 12

/-- A command's answer: its status and result bytes. -/
structure Response where
  status : Status
  result : List Byte
  deriving DecidableEq, Repr

/-- R17, R30: the response record: tag, status, result length, result. -/
def Response.record (tag : Byte) (r : Response) : List Byte :=
  tag :: r.status.code :: (leBytes 2 r.result.length ++ r.result)

/-- A state with the answer formed in it. -/
abbrev Reply := State × Response

/-- Answer DONE with no result. -/
def done (s : State) : Reply := (s, ⟨.done, []⟩)

/-- R31: a refusal: result length 0. -/
def refuse (st : Status) (s : State) : Reply := (s, ⟨st, []⟩)

/-- DONE with a result record. -/
def report (s : State) (bytes : List Byte) : Reply := (s, ⟨.done, bytes⟩)

/-- R34, R35: the answer to a setting: DONE within range, CLAMPED outside. -/
def settingStatus (lo hi : Nat) (v : Int) : Response :=
  ⟨if inSetting lo hi v then .done else .clamped, []⟩

/-! ## Parameter bytes -/

/-- A beam number, 0 to 15. -/
def beamOf (b : Byte) : Option Beam := if h : b.toNat < 16 then some ⟨b.toNat, h⟩ else none

/-- A zone number, 0 to 5. -/
def zoneOf (b : Byte) : Option Zone := if h : b.toNat < 6 then some ⟨b.toNat, h⟩ else none

/-- A segment position, 0 to 63. -/
def posOf (b : Byte) : Option Pos := if h : b.toNat < 64 then some ⟨b.toNat, h⟩ else none

/-- The positions first to first + count - 1, ascending. -/
def positions (first count : Nat) : List Pos :=
  (List.finRange 64).filter fun p => first ≤ p.val && p.val < first + count

/-- A position lies in the range. -/
def inRange (first count : Nat) (p : Pos) : Bool := first ≤ p.val && p.val < first + count

/-- R33: a clear option: 0 reports, 1 reports and clears, anything else is refused. -/
def clearOf (b : Byte) : Option Bool := if b = 0 then some false else if b = 1 then some true else none

/-- R74, R76, R160: the range check of UNMAP, PIN, UNPIN and FILL SEGMENTS. -/
def rangeOk (first count : Byte) : Bool :=
  first.toNat ≤ 63 && count != 0 && first.toNat + count.toNat ≤ 64

/-! ## Record bytes -/

/-- R32: a command's number. -/
def commandNumber : Command → Byte
  | .setBeam _ _ _ => 1
  | .setDevice _ _ _ => 2
  | .setMix _ _ _ => 3
  | .setReceive _ => 4
  | .freeze _ => 5
  | .thaw _ => 6
  | .setAccessMode _ => 7
  | .setNoticeMask _ => 8
  | .clearNotices _ => 9
  | .setRotation _ => 10
  | .setBottom _ => 11
  | .retrainBeam _ => 12
  | .resetProcessing => 13
  | .mapSegments _ _ _ _ => 14
  | .unmapSegments _ _ _ _ => 15
  | .setWindow _ _ _ => 16
  | .pinSegments _ _ _ _ => 17
  | .unpinSegments _ _ _ _ => 18
  | .setAnchoring _ _ => 19
  | .checkpointBeam _ => 20
  | .restoreBeam _ => 21
  | .clearBeam _ => 22
  | .fillSegments _ _ _ _ _ => 23
  | .readCoefficients _ _ _ _ _ => 24
  | .writeCoefficients _ _ _ _ _ => 25
  | .queryBeam _ _ => 26
  | .queryPath _ _ _ => 27
  | .queryPool _ => 28
  | .queryScheduler _ => 29
  | .queryLink _ => 30
  | .queryMemory _ => 31
  | .queryTimer _ => 32
  | .malformed n => n
  | .unknown n => n

/-- R33 and each owning chapter: a command's parameter bytes. (A malformed or unknown record's own
bytes are not kept: nothing reads them.) -/
def commandParams : Command → List Byte
  | .setBeam b k v => b :: k :: leBytes 8 v.toNat
  | .setDevice k i v => k :: i :: leBytes 4 v.toNat
  | .setMix z c g => z :: c :: leBytes 2 g.toNat
  | .setReceive bs => BitVec.ofNat 8 bs.length :: bs
  | .freeze m => leBytes 2 m.toNat
  | .thaw m => leBytes 2 m.toNat
  | .setAccessMode m => [m]
  | .setNoticeMask f => [f]
  | .clearNotices f => [f]
  | .setRotation m => [m]
  | .setBottom b => [b]
  | .retrainBeam b => [b]
  | .resetProcessing => []
  | .mapSegments b z f c => [b, z, f, c]
  | .unmapSegments b z f c => [b, z, f, c]
  | .setWindow b z w => [b, z, w]
  | .pinSegments b z f c => [b, z, f, c]
  | .unpinSegments b z f c => [b, z, f, c]
  | .setAnchoring b m => [b, m]
  | .checkpointBeam b => [b]
  | .restoreBeam b => [b]
  | .clearBeam b => [b]
  | .fillSegments b z f c v => b :: z :: f :: c :: leBytes 4 v.toNat
  | .readCoefficients b z p f c => [b, z, p, f, c]
  | .writeCoefficients b z p f vs =>
    b :: z :: p :: f :: BitVec.ofNat 8 vs.length :: vs.flatMap fun v => leBytes 4 v.toNat
  | .queryBeam b c => [b, c]
  | .queryPath b z f => [b, z, f]
  | .queryPool c => [c]
  | .queryScheduler c => [c]
  | .queryLink c => [c]
  | .queryMemory c => [c]
  | .queryTimer c => [c]
  | .malformed _ => []
  | .unknown _ => []

/-- Four-byte values, low byte first (R183). -/
def coefsOfBytes : List Byte → List Coef
  | a :: b :: c :: d :: rest => (d ++ c ++ b ++ a) :: coefsOfBytes rest
  | _ => []

/-- The value of n parameter bytes, low byte first. -/
def word (n : Nat) (bs : List Byte) : BitVec n := BitVec.ofNat n (fromLe bs)

/-- R29, checks 1 and 2: the command of a record, by its number, with the parameter length the owning
chapter gives (R40 for SET RECEIVE, R183 for WRITE COEFFICIENTS). -/
def parseCommand (number : Byte) (ps : List Byte) : Command :=
  match number.toNat, ps with
  | 1, [b, k, v0, v1, v2, v3, v4, v5, v6, v7] =>
    .setBeam b k (word 64 [v0, v1, v2, v3, v4, v5, v6, v7])
  | 2, [k, i, v0, v1, v2, v3] => .setDevice k i (word 32 [v0, v1, v2, v3])
  | 3, [z, c, g0, g1] => .setMix z c (word 16 [g0, g1])
  | 4, n :: bs => if bs.length = n.toNat then .setReceive bs else .malformed number
  | 5, [m0, m1] => .freeze (word 16 [m0, m1])
  | 6, [m0, m1] => .thaw (word 16 [m0, m1])
  | 7, [m] => .setAccessMode m
  | 8, [f] => .setNoticeMask f
  | 9, [f] => .clearNotices f
  | 10, [m] => .setRotation m
  | 11, [b] => .setBottom b
  | 12, [b] => .retrainBeam b
  | 13, [] => .resetProcessing
  | 14, [b, z, f, c] => .mapSegments b z f c
  | 15, [b, z, f, c] => .unmapSegments b z f c
  | 16, [b, z, w] => .setWindow b z w
  | 17, [b, z, f, c] => .pinSegments b z f c
  | 18, [b, z, f, c] => .unpinSegments b z f c
  | 19, [b, m] => .setAnchoring b m
  | 20, [b] => .checkpointBeam b
  | 21, [b] => .restoreBeam b
  | 22, [b] => .clearBeam b
  | 23, [b, z, f, c, v0, v1, v2, v3] => .fillSegments b z f c (word 32 [v0, v1, v2, v3])
  | 24, [b, z, p, f, c] => .readCoefficients b z p f c
  | 25, b :: z :: p :: f :: c :: vs =>
    if vs.length = 4 * c.toNat then .writeCoefficients b z p f (coefsOfBytes vs)
    else .malformed number
  | 26, [b, c] => .queryBeam b c
  | 27, [b, z, f] => .queryPath b z f
  | 28, [c] => .queryPool c
  | 29, [c] => .queryScheduler c
  | 30, [c] => .queryLink c
  | 31, [c] => .queryMemory c
  | 32, [c] => .queryTimer c
  | _, _ => if unknownNumber number then .unknown number else .malformed number

/-- R17: the bytes of a command record. -/
def commandRecord (tag : Byte) (c : Command) : List Byte :=
  tag :: commandNumber c :: (leBytes 2 (commandParams c).length ++ commandParams c)

end Sys2Proof.Machine
end

