-- ==== Sys2Proof/Machine/LinkCommands.lean ====
section
/-! DEFINITION. The commands on a link's own settings (02, 03 R46), on the scheduler's (07 R118,
R122), and RESET PROCESSING (02 R36). -/

namespace Sys2Proof.Machine

/-- R46: SET MIX: the gain of the issuing link's column for the channel. Column 4·l + c of a zone is
the link's channel c. -/
def runSetMix (l : Link) (zone channel : Byte) (gain : BitVec 16) (s : State) : Reply :=
  match zoneOf zone with
  | some z =>
    if h : channel.toNat < 4 then
      done (s.modZone z fun k =>
        { k with gains := k.gains.set (4 * l.val + channel.toNat) gain (by omega) })
    else refuse .badArgument s
  | none => refuse .badArgument s

/-- R40: the list's entries as beams; none if one is above 15. -/
def beamList : List Byte → Option (List Beam)
  | [] => some []
  | b :: bs =>
    match beamOf b, beamList bs with
    | some x, some xs => some (x :: xs)
    | _, _ => none

/-- R40: SET RECEIVE: at most 8 beams, each known, none twice. -/
def runSetReceive (l : Link) (beams : List Byte) (s : State) : Reply :=
  match beamList beams with
  | some bs =>
    if 8 < bs.length || !decide bs.Nodup then refuse .badArgument s
    else done (s.modLink l fun k => { k with receive := bs })
  | none => refuse .badArgument s

/-- R42, R128, R133: FREEZE adds beams to the link's freeze mask and withdraws their ungranted
entries. -/
def runFreeze (l : Link) (beams : BitVec 16) (s : State) : Reply :=
  let s := s.modLink l fun k => { k with freeze := k.freeze ||| beams }
  done (s.modSched fun k =>
    { k with demand := k.demand.filter fun d => !beams.getLsbD d.addr.beam.val })

/-- R42: THAW removes beams from the link's freeze mask. -/
def runThaw (l : Link) (beams : BitVec 16) (s : State) : Reply :=
  done (s.modLink l fun k => { k with freeze := k.freeze &&& ~~~beams })

/-- R43: SET ACCESS MODE. -/
def runSetAccessMode (l : Link) (mode : Byte) (s : State) : Reply :=
  if mode = 0 then done (s.modLink l fun k => { k with access := .background })
  else if mode = 1 then done (s.modLink l fun k => { k with access := .priority })
  else refuse .badArgument s

/-- R38: SET NOTICE MASK. -/
def runSetNoticeMask (l : Link) (flags : Byte) (s : State) : Reply :=
  done (s.modLink l fun k => { k with mask := flags })

/-- R39: CLEAR NOTICES. -/
def runClearNotices (l : Link) (flags : Byte) (s : State) : Reply :=
  done (s.modLink l fun k => { k with notices := k.notices &&& ~~~flags })

/-- R122: SET ROTATION. -/
def runSetRotation (mode : Byte) (s : State) : Reply :=
  if mode = 0 then done (s.modSched fun k => { k with rotation := .rotating })
  else if mode = 1 then done (s.modSched fun k => { k with rotation := .fixed })
  else refuse .badArgument s

/-- R122: SET BOTTOM. -/
def runSetBottom (beam : Byte) (s : State) : Reply :=
  match beamOf beam with
  | some b => done (s.modSched fun k => { k with bottom := b })
  | none => refuse .badArgument s

/-- R118: RETRAIN BEAM. -/
def runRetrainBeam (beam : Byte) (s : State) : Reply :=
  match beamOf beam with
  | some b => done (s.setLatch b true)
  | none => refuse .badArgument s

/-! ## RESET PROCESSING -/

/-- R58: a zone's history cleared. -/
def ZoneState.clearHistory (k : ZoneState) : ZoneState :=
  { k with
    ring := List.replicate Config.ringLength 0
    energies := Vector.replicate 7 0
    ex := 0
    px := 0 }

/-- R96, R115, R135, R193: what RESET PROCESSING clears of a beam. -/
def BeamState.clearProcessing (k : BeamState) : BeamState :=
  { k with
    est := { k.est with ed := 0, ey := 0, ee := 0, pd := 0, py := 0, pe := 0 }
    talk := { k.talk with
      state := .quiet, candidate := none, run := 0, divergenceRun := 0, captureRun := 0,
      request := false }
    latch := false
    out := { k.out with target := 0, current := 0, applied := 0 } }

/-- R120: how many lanes are in service. -/
def Scheduler.lanesInService (k : Scheduler) : Nat := k.lanes.toList.countP Option.isSome

/-- R135: every pass abandoned, every ungranted entry withdrawn. -/
def Scheduler.abandonAll (k : Scheduler) : Scheduler :=
  { k with
    lanes := Vector.replicate 4 none
    demand := []
    abandons := k.abandons.add k.lanesInService }

/-- R36: RESET PROCESSING. -/
def runResetProcessing (s : State) : Reply :=
  done (((s.mapZones ZoneState.clearHistory).mapBeams BeamState.clearProcessing).modSched
    Scheduler.abandonAll)

/-! ## Job commands (09) -/

/-- R155: CHECKPOINT BEAM. -/
def runCheckpointBeam (l : Link) (beam : Byte) (s : State) : Reply :=
  match beamOf beam with
  | some b =>
    if !s.beams[b].anchoring then refuse .noAnchor s
    else if s.hasJob b then refuse .beamBusy s
    else if Config.commandJobLimit ≤ s.commandJobs then refuse .jobListFull s
    else done (s.queueJob (.capture b (.command l) 0 false))
  | none => refuse .badArgument s

/-- R157: RESTORE BEAM. -/
def runRestoreBeam (l : Link) (beam : Byte) (s : State) : Reply :=
  match beamOf beam with
  | some b =>
    if s.hasCopyJob b then refuse .beamBusy s
    else if !s.beams[b].anchor.valid then refuse .noAnchor s
    else if Config.commandJobLimit ≤ s.commandJobs then refuse .jobListFull s
    else done (s.queueJob (.restore b (.command l) 0 false))
  | none => refuse .badArgument s

/-- R158: CLEAR BEAM. -/
def runClearBeam (l : Link) (beam : Byte) (s : State) : Reply :=
  match beamOf beam with
  | some b =>
    if s.hasCopyJob b then refuse .beamBusy s
    else if Config.commandJobLimit ≤ s.commandJobs then refuse .jobListFull s
    else done (s.queueJob (.clear b (.command l) 0))
  | none => refuse .badArgument s

/-- R160: the last position of a FILL's range, first + count - 1. -/
def lastPos (first : Pos) (count : Byte) : Pos :=
  ⟨min (first.val + count.toNat - 1) 63, by omega⟩

/-- R160: FILL SEGMENTS. -/
def runFillSegments (l : Link) (beam zone first count : Byte) (value : Coef) (s : State) : Reply :=
  match beamOf beam, zoneOf zone, posOf first with
  | some b, some z, some f =>
    if !rangeOk first count then refuse .badArgument s
    else if Config.commandJobLimit ≤ s.commandJobs then refuse .jobListFull s
    else done (s.queueJob (.fill b z f (lastPos f count) value f.val l))
  | _, _, _ => refuse .badArgument s

/-! ## Store requests (11) -/

/-- R182, check 1. -/
def coefRangeOk (first count : Byte) : Bool :=
  count != 0 && count.toNat ≤ 64 && first.toNat + count.toNat ≤ 256

/-- R182, check 2: the entry is MAPPED. -/
def State.isMappedAt (s : State) (a : SegAddr) : Bool :=
  match s.seg? a with
  | some e => e.isMapped
  | none => false

/-- A command's outcome: the state, and its answer unless it stays EXECUTING (R29). -/
abbrev Execution := State × Option Response

/-- A command that is answered at once. -/
def answered (r : Reply) : Execution := (r.1, some r.2)

/-- R182: READ COEFFICIENTS up to its place in the store request queue. -/
def runReadCoefficients (l : Link) (beam zone pos first count : Byte) (s : State) : Execution :=
  match beamOf beam, zoneOf zone, posOf pos with
  | some b, some z, some p =>
    if !coefRangeOk first count then answered (refuse .badArgument s)
    else if !s.isMappedAt ⟨b, z, p⟩ then answered (refuse .notMapped s)
    else
      (s.modLink l fun k =>
        { k with request := some ⟨.read, ⟨b, z, p⟩, first.toNat, count.toNat⟩ }, none)
  | _, _, _ => answered (refuse .badArgument s)

/-- R183, R184: WRITE COEFFICIENTS up to its place in the queue; from then on its beam is masked and
its ungranted entries are withdrawn (R128). -/
def runWriteCoefficients (l : Link) (beam zone pos first : Byte) (values : List Coef) (s : State) :
    Execution :=
  let count : Byte := BitVec.ofNat 8 values.length
  match beamOf beam, zoneOf zone, posOf pos with
  | some b, some z, some p =>
    if !coefRangeOk first count then answered (refuse .badArgument s)
    else if !s.isMappedAt ⟨b, z, p⟩ then answered (refuse .notMapped s)
    else if s.hasMaskingJob b then answered (refuse .beamBusy s)
    else
      ((s.modLink l fun k =>
        { k with request := some ⟨.write values, ⟨b, z, p⟩, first.toNat, count.toNat⟩ }).withdraw b,
        none)
  | _, _, _ => answered (refuse .badArgument s)

end Sys2Proof.Machine
end

