-- ==== Sys2Proof/Machine/Scheduler.lean ====
section
/-! DEFINITION. The adaptation scheduler (07): priority order, lane grants, and the formation of the
demand list with its holds. -/

namespace Sys2Proof.Machine

/-- R121: the priority order, from bottom + 1 around to the bottom beam. -/
def priorityOrder (bottom : Beam) : List Beam :=
  (List.finRange 16).map fun i => bottom + 1 + i

/-- R120: the lowest-numbered free lane. -/
def State.freeLane (s : State) : Option LaneNo :=
  (List.finRange 4).find? fun n => s.sched.lanes[n].isNone

/-- R123: the beam may be granted a lane: request present, not masked, not in service, at least one
eligible segment. -/
def State.grantable (s : State) (b : Beam) : Bool :=
  s.beams[b].requests && !s.masked b && !s.inService b && !(s.eligible b).isEmpty

/-- R123: grant the beam the lowest-numbered free lane, if it may be granted and one is free. -/
def State.grantLane (s : State) (b : Beam) : State :=
  if s.grantable b then
    match s.freeLane, s.eligible b with
    | some n, e :: _ =>
      (s.setLatch b false).setLane n
        (some ⟨b, e.addr.point, false, 0, 0, s.timer.block⟩)
    | _, _ => s
  else s

/-- R123: the lane grants of a boundary. -/
def State.grantLanes (s : State) : State :=
  (priorityOrder s.sched.bottom).foldl State.grantLane s

/-- R131: a pass held in this formation reaches the hold limit. -/
def State.reachesHoldLimit (s : State) (p : Pass) : Bool :=
  s.masked p.beam && s.sched.holdLimit ≤ p.age + 1

/-- R130, R131: bring one lane up to date at a formation. -/
def State.holdLane (s : State) (n : LaneNo) : State :=
  match s.sched.lanes[n] with
  | none => s
  | some p =>
    if s.masked p.beam then
      if s.reachesHoldLimit p then
        ((s.setLane n none).setLatch p.beam true).modSched fun k =>
          { k with holdAbandons := k.holdAbandons.bump }
      else s.setLane n (some { p with held := true, age := p.age + 1 })
    else s.setLane n (some { p with held := false, age := 0 })

/-- R130: bring every lane up to date. -/
def State.holdLanes (s : State) : State := (List.finRange 4).foldl State.holdLane s

/-- R126: the estimator read the segment in this block. -/
def State.wasRead (s : State) (a : SegAddr) : Bool := s.work.bases.any fun r => r.addr == a

/-- R126: visit one beam of the walk: an unheld pass adds its remaining segments that were read, up
to 256 entries in all, or completes if none remain. Its position moves past segments that have been
pinned, to the first remaining one (R127, R145). The walk has ended when the list is full. -/
def State.visitBeam (s : State) (b : Beam) : State :=
  match s.laneOf b with
  | none => s
  | some n =>
    match s.sched.lanes[n] with
    | none => s
    | some p =>
      if p.held || Config.demandLimit ≤ s.sched.demand.length then s
      else
        match s.remaining b p.point with
        | [] => s.completePass n
        | e :: rest =>
          let room := Config.demandLimit - s.sched.demand.length
          let es := ((e :: rest).filter fun f => s.wasRead f.addr).map fun f => (⟨n, f.addr⟩ : Demand)
          (s.setLane n (some { p with point := e.addr.point })).modSched fun k =>
            { k with demand := k.demand ++ es.take room }

/-- R126: form the block's demand list and its record. The order is the one at the formation's
start. -/
def State.formDemand (s : State) : State :=
  let s := s.holdLanes
  let s := s.modSched fun k => { k with demand := [] }
  let s := (priorityOrder s.sched.bottom).foldl State.visitBeam s
  s.modSched fun k =>
    { k with demandBlock := s.timer.block, listed := k.demand.length, granted := 0 }

end Sys2Proof.Machine
end

