-- ==== Sys2Proof/Machine/OutputStage.lean ====
section
/-! DEFINITION. The beam output stage (12): the residual gain and the output block. -/

namespace Sys2Proof.Machine

/-- R188: the target gain for a model state and a talk state. -/
def targetGain (set : BeamSettings) : ModelState → TalkState → Nat
  | .restoring, _ => set.restore
  | .clearing, _ => set.restore
  | .idle, .farOnly => set.suppression
  | .capturing, .farOnly => set.suppression
  | .idle, .double => set.doubleTalk
  | .capturing, .double => set.doubleTalk
  | .idle, .quiet => 32768
  | .idle, .nearOnly => 32768
  | .capturing, .quiet => 32768
  | .capturing, .nearOnly => 32768

/-- R188: a gain moved toward a target by at most the ramp step. -/
def rampGain (ramp target current : Nat) : Nat :=
  if current < target then min (current + ramp) target
  else if target < current then max (current - ramp) target
  else current

/-- R188: the gain step of a beam's evaluation, with the talk state and the model state as they stand
at its end. -/
def State.stepGain (b : Beam) (s : State) : State :=
  let m := s.modelState b
  s.modBeam b fun k =>
    let t := targetGain k.set m k.talk.state
    { k with out := { k.out with target := t, current := rampGain k.set.ramp t k.out.current } }

/-- R189: at a boundary each beam's current gain is copied into its applied gain. -/
def State.copyGains (s : State) : State :=
  s.mapBeams fun k => { k with out := { k.out with applied := k.out.current } }

/-- R190: one sample before the clamp. -/
def scaledSample (gain : Nat) (e : Sample) : Int := roundDiv (e.toInt * gain) 32768

/-- R190: one sample of output. -/
def outputSample (gain limit : Nat) (e : Sample) : Sample :=
  BitVec.ofInt 16 (clampInt (-limit) limit (scaledSample gain e))

/-- R190: the clamp changes the sample. -/
def outputClamps (gain limit : Nat) (e : Sample) : Bool :=
  let q := scaledSample gain e
  q < -(limit : Int) || (limit : Int) < q

/-- R190: form a beam's output block at its completion, from the error just formed. -/
def State.formOutput (b : Beam) (s : State) : State :=
  let live := s.timer.status == .good && s.work.enabled.getLsbD b.val
  s.modBeam b fun k =>
    let g := k.out.applied
    let l := k.set.limit
    { k with out := { k.out with
        samples := if live then k.est.e.map (outputSample g l) else List.replicate 32 0
        block := s.timer.block
        clamps := if live then k.out.clamps.add (k.est.e.countP (outputClamps g l))
          else k.out.clamps } }

end Sys2Proof.Machine
end

