-- ==== Sys2Proof/Machine/Talk.lean ====
section
/-! DEFINITION. The talk detector's evaluation of a beam (06): talk state, divergence watch, capture
trigger and request condition, in that order (R99), then the gain step of 12 R188. -/

namespace Sys2Proof.Machine

/-- R100: the zones whose path into the beam is open. -/
def State.openZones (s : State) (b : Beam) : List Zone := (List.finRange 6).filter (s.isOpen b)

/-- R100: the far-end block energy sum. -/
def State.farEnergy (s : State) (b : Beam) : Nat := ((s.openZones b).map fun z => s.zones[z].ex).sum

/-- R100: the far-end power sum. -/
def State.farPower (s : State) (b : Beam) : Nat := ((s.openZones b).map fun z => s.zones[z].px).sum

/-- R101: FE, the far end is active. -/
def State.farEnd (s : State) (b : Beam) : Bool := s.beams[b].set.farThreshold < s.farEnergy b

/-- R101: NE, the near end is present. -/
def State.nearEnd (s : State) (b : Beam) : Bool :=
  if s.farEnd b then s.beams[b].set.coupling * s.farPower b < 256 * s.beams[b].est.pd
  else s.beams[b].set.nearFloor < s.beams[b].est.pd

/-- R101: the candidate state. -/
def candidateState : Bool → Bool → TalkState
  | false, false => .quiet
  | true, false => .farOnly
  | false, true => .nearOnly
  | true, true => .double

/-- R104: the count for a transition. -/
def transitionCount (set : BeamSettings) : TalkState → TalkState → Nat
  | _, .double => set.entryCount
  | .nearOnly, .farOnly => set.hangoverCount
  | .double, .farOnly => set.hangoverCount
  | .quiet, .farOnly => set.normalCount
  | .farOnly, .farOnly => set.normalCount
  | _, .quiet => set.normalCount
  | _, .nearOnly => set.normalCount

/-- R103: the talk state, candidate and run brought up to date with a candidate. -/
def talkStep (set : BeamSettings) (c : TalkState) (t : Talk) : Talk :=
  if c = t.state then { t with run := 0, candidate := none }
  else
    let run := if t.candidate = some c then t.run + 1 else 1
    if transitionCount set t.state c ≤ run then { t with state := c, run := 0, candidate := none }
    else { t with run := run, candidate := some c }

/-- First stage (R101 to R104). A copy job queued from here on is one queued since this evaluation
began (R109). -/
def State.stageTalk (b : Beam) (s : State) : State :=
  let c := candidateState (s.farEnd b) (s.nearEnd b)
  s.modBeam b fun k => { k with talk := { talkStep k.set c k.talk with copyQueued := false } }

/-- R106: the divergence indicator. -/
def State.diverging (s : State) (b : Beam) : Bool :=
  let k := s.beams[b]
  k.enable && (s.modelState b).readable && (k.talk.state == .farOnly || k.talk.state == .double)
    && (16 + k.set.margin) * k.est.pd < 16 * k.est.pe

/-- R106: the divergence run an evaluation leaves before any declaration. -/
def State.nextDivergenceRun (s : State) (b : Beam) : Nat :=
  if s.diverging b then s.beams[b].talk.divergenceRun + 1 else 0

/-- R106: the evaluation's second stage declares the beam diverged. -/
def State.divergesNow (s : State) (b : Beam) : Bool :=
  s.diverging b && s.beams[b].set.divergenceCount ≤ s.nextDivergenceRun b

/-- R107: a declaration of divergence: BEAM DIVERGED, the counter, both runs, any CAPTURE aborted,
and a RESTORE or CLEAR queued by the anchor record as it stands after the abort. -/
def State.declareDivergence (b : Beam) (s : State) : State :=
  let s := s.raiseAll .beamDiverged
  let s := s.modBeam b fun k =>
    { k with talk := { k.talk with
        divergences := k.talk.divergences.bump, divergenceRun := 0, captureRun := 0 } }
  let s := s.abortCapture b
  if s.beams[b].anchor.valid then s.queueJob (.restore b .divergence 0 false)
  else s.queueJob (.clear b .divergence 0)

/-- Second stage (R106, R107). -/
def State.stageDivergence (b : Beam) (s : State) : State :=
  let run := s.nextDivergenceRun b
  let declared := s.divergesNow b
  let s := s.modBeam b fun k => { k with talk := { k.talk with divergenceRun := run } }
  if declared then s.declareDivergence b else s

/-- R109: the evaluation counts toward a capture. -/
def State.qualifies (s : State) (b : Beam) : Bool :=
  let k := s.beams[b]
  k.enable && s.modelState b == .idle && k.talk.state == .farOnly
    && k.set.captureRatio * k.est.pe ≤ k.est.pd

/-- R109: the capture run an evaluation leaves before any trigger: 0 at the first evaluation after a
CAPTURE, RESTORE or CLEAR of the beam was queued (`queued`), even where the job has completed since. -/
def State.nextCaptureRun (s : State) (queued : Bool) (b : Beam) : Nat :=
  if s.qualifies b && !queued then min (s.beams[b].talk.captureRun + 1) s.beams[b].set.captureCount
  else 0

/-- R110: the previous anchor is INVALID or old enough, ages modulo 2^32. -/
def State.anchorAged (s : State) (b : Beam) : Bool :=
  let k := s.beams[b]
  !k.anchor.valid || k.set.captureInterval ≤ (s.timer.block - k.anchor.block).toNat

/-- R110: the evaluation's third stage queues a CAPTURE. -/
def State.triggersNow (s : State) (queued : Bool) (b : Beam) : Bool :=
  s.qualifies b && !queued && s.nextCaptureRun queued b == s.beams[b].set.captureCount
    && s.beams[b].anchoring && !s.hasJob b && s.anchorAged b

/-- Third stage (R109, R110). -/
def State.stageCapture (queued : Bool) (b : Beam) (s : State) : State :=
  let run := s.nextCaptureRun queued b
  let fires := s.triggersNow queued b
  let s := s.modBeam b fun k => { k with talk := { k.talk with captureRun := run } }
  if fires then
    (s.modBeam b fun k => { k with talk := { k.talk with captureRun := 0 } }).queueJob
      (.capture b .trigger 0 false)
  else s

/-- R112: the request condition. -/
def BeamState.wantsPass (k : BeamState) : Bool :=
  k.talk.state == .farOnly && k.enable && 0 < k.set.mu && k.est.pd < k.set.targetRatio * k.est.pe

/-- Fourth stage (R112), with the latch of R117: in LATCHED mode a change from false to true sets
it. -/
def State.stageRequest (b : Beam) (s : State) : State :=
  s.modBeam b fun k =>
    let now := k.wantsPass
    { k with
      latch := k.latch || (k.set.trigger == .latched && now && !k.talk.request)
      talk := { k.talk with request := now } }

/-- R99: the evaluation record. -/
def State.recordEvaluation (b : Beam) (s : State) : State :=
  let fe := s.farEnd b
  let ne := s.nearEnd b
  let xb := s.farEnergy b
  let pxb := s.farPower b
  s.modBeam b fun k =>
    { k with talk := { k.talk with block := s.timer.block, fe := fe, ne := ne, xb := xb, pxb := pxb } }

/-- R99, R188: one whole evaluation of a beam. -/
def State.evaluate (b : Beam) (s : State) : State :=
  let queued := s.beams[b].talk.copyQueued
  (((((s.stageTalk b).stageDivergence b).stageCapture queued b).stageRequest b).recordEvaluation
    b).stepGain b

end Sys2Proof.Machine
end

