-- ==== Sys2Proof/Machine/Estimator.lean ====
section
/-! DEFINITION. The echo estimator (05): what it takes at a boundary, its reads, and the completion of
a beam's estimate with everything that happens at it (95, ESTIMATE_COMPLETE). -/

namespace Sys2Proof.Machine

/-! ## At the boundary -/

/-- R82: a beam is estimated with reads when it is enabled and IDLE or CAPTURING. -/
def State.estimatedWithReads (s : State) (b : Beam) : Bool :=
  s.beams[b].enable && (s.modelState b).readable

/-- R83: the reads asked for: the MAPPED entries of the open paths of every beam estimated with
reads, in ascending beam, zone and position. -/
def State.askedReads (s : State) : List SegAddr :=
  (s.segs.filter fun e =>
    e.isMapped && s.estimatedWithReads e.addr.beam && s.isOpen e.addr.beam e.addr.zone).map (·.addr)

/-- R82, R83: take the block's inputs and ask for its reads. -/
def State.takeInputs (s : State) : State :=
  s.modWork fun _ =>
    { rings := vmap (·.ring) s.zones
      energies := vmap (·.energies) s.zones
      enabled := beamSet fun b => s.beams[b].enable
      reads := s.askedReads
      bases := [] }

/-! ## Reads -/

/-- R84: carry out or drop the first read asked for. -/
def State.readHead (s : State) : State :=
  match s.work.reads with
  | [] => s
  | a :: rest =>
    let s := s.modWork fun k => { k with reads := rest }
    match s.seg? a with
    | none => s
    | some e =>
      if e.isMapped then
        let ws := s.readWords e.page allWords
        let bad := badWords ws
        let s := s.noteWords .estimator true e.page ws
        let s := s.modBeam a.beam fun k =>
          { k with est := { k.est with uncorrectable := k.est.uncorrectable.add bad } }
        let s := s.modWork fun k =>
          { k with bases := k.bases ++ [⟨a, unpackWords (ws.map fun w => w.2.value), bad⟩] }
        s.charge fun c => { c with segmentReads := c.segmentReads + 1 }
      else s

/-! ## The estimate -/

/-- R82, R85: the reference samples x(n - 256s), x(n - 256s - 1), ... of a taken ring, newest first.
Entry 0 of a ring is x(31). -/
def laggedRing (ring : List Sample) (n s : Nat) : List Sample := ring.drop (31 - n + 256 * s)

/-- R85: the exact convolution sum of a beam for sample n. -/
def State.convolution (s : State) (b : Beam) (n : Nat) : Int :=
  ((s.work.bases.filter fun r => r.addr.beam == b).map fun r =>
    dot r.coefs (laggedRing s.work.rings[r.addr.zone] n r.addr.pos.val)).sum

/-- R86: the rounded quotient before saturation. -/
def State.rawEstimate (s : State) (b : Beam) (n : Nat) : Int := roundDiv (s.convolution b n) (2 ^ 30)

/-- R88: captured sample less estimate, before saturation. -/
def rawError (d y : Sample) : Int := d.toInt - y.toInt

/-- R57, R60: the place among the seven kept energies of window W: E_256 is place 0, E_16384 place 6.
A window of 0 has none. -/
def energyPlace : Nat → Option (Fin 7)
  | 1 => some 0
  | 2 => some 1
  | 4 => some 2
  | 8 => some 3
  | 16 => some 4
  | 32 => some 5
  | 64 => some 6
  | _ => none

/-- R93: the energy a path of window W reads, 0 for a closed path. -/
def windowEnergy (es : Vector Nat 7) (w : Nat) : Nat :=
  match energyPlace w with
  | some i => es[i]
  | none => 0

/-- R93: the normaliser, from the energies taken at the boundary, and the windows and regularisation
as they stand. -/
def State.normaliserOf (s : State) (b : Beam) : Nat :=
  s.beams[b].set.delta
    + ((List.finRange 6).map fun z => windowEnergy s.work.energies[z] s.beams[b].windows[z]).sum

/-- R89: form the estimate of a beam for the current block: y, e, energies, powers (only in a GOOD
block, R91), normaliser and estimate record. -/
def State.formEstimate (b : Beam) (s : State) : State :=
  let raws := (List.range 32).map (s.rawEstimate b)
  let ys := raws.map sat16
  let ds := s.capture[b]
  let errs := List.zipWith rawError ds ys
  let es := errs.map sat16
  let mine := s.work.bases.filter fun r => r.addr.beam == b
  let good := s.timer.status == .good
  let dn := s.normaliserOf b
  let (ed, ey, ee) := (energy ds, energy ys, energy es)
  s.modBeam b fun k =>
    { k with est := { k.est with
        y := ys
        e := es
        block := s.timer.block
        reads := mine.length
        zeroed := (mine.map (·.zeroed)).sum
        ed := ed
        ey := ey
        ee := ee
        pd := if good then smooth k.est.pd ed else k.est.pd
        py := if good then smooth k.est.py ey else k.est.py
        pe := if good then smooth k.est.pe ee else k.est.pe
        normaliser := dn
        estSats := k.est.estSats.add (raws.countP over16)
        errSats := k.est.errSats.add (errs.countP over16) } }

/-- R89, R190: the completion up to the evaluation: the estimate, then the output block. -/
def State.finishEstimate (b : Beam) (s : State) : State := (s.formEstimate b).formOutput b

/-- R99: a beam is evaluated in a GOOD block only. -/
def State.evaluateIfGood (b : Beam) (s : State) : State :=
  if s.timer.status = .good then s.evaluate b else s

/-- R89: a beam's estimate completes, and in a GOOD block its evaluation follows at once. -/
def State.completeBeam (b : Beam) (s : State) : State := (s.finishEstimate b).evaluateIfGood b

/-- A read of the beam is still asked for. -/
def State.awaitsRead (s : State) (b : Beam) : Bool := s.work.reads.any fun a => a.beam == b

/-- R89: after a read of beam b, complete the beam if that was its last. -/
def State.completeIfLast (b : Beam) (s : State) : State :=
  if s.awaitsRead b then s else s.completeBeam b

/-- R125: the demand list is formed when the last read has been granted or dropped. -/
def State.formIfDone (s : State) : State :=
  if s.work.reads = [] then s.formDemand else s

/-- R84: one segment read grant, with what it completes (95, SEGMENT_READ_GRANT). -/
def State.segmentRead (s : State) : State :=
  match s.work.reads with
  | [] => s
  | a :: _ => ((s.readHead).completeIfLast a.beam).formIfDone

/-- R168: grant every read still asked for. The fuel is their number. -/
def State.finishReadsFuel : Nat → State → State
  | 0, s => s
  | n + 1, s => State.finishReadsFuel n s.segmentRead

/-- R168: all of a block's reads are granted before the next boundary (log entry 5). -/
def State.finishReads (s : State) : State := State.finishReadsFuel s.work.reads.length s

/-- R89: the beams whose estimate needs no read complete at the boundary, in ascending number (log
entry 6). -/
def State.readFree (s : State) : List Beam := (List.finRange 16).filter fun b => !s.awaitsRead b

/-- Complete several beams in order. -/
def State.completeBeams (bs : List Beam) (s : State) : State :=
  bs.foldl (fun s b => s.completeBeam b) s

/-- The part of a boundary after the inputs are taken: the completions without reads and, in a block
with no read, the demand list. -/
def State.completeAtBoundary (s : State) : State := (s.completeBeams s.readFree).formIfDone

end Sys2Proof.Machine
end

