-- ==== Sys2Proof/Machine/PathModel.lean ====
section
/-! DEFINITION. The path model's commands (04): SET WINDOW, MAP, UNMAP, PIN and UNPIN SEGMENTS, SET
ANCHORING, and the enable setting. -/

namespace Sys2Proof.Machine

/-! ## Windows -/

/-- R60: the eight permitted windows. -/
def permittedWindow (w : Nat) : Bool := [0, 1, 2, 4, 8, 16, 32, 64].contains w

/-- R61: SET WINDOW. -/
def runSetWindow (beam zone window : Byte) (s : State) : Reply :=
  match beamOf beam, zoneOf zone with
  | some b, some z =>
    if !permittedWindow window.toNat then refuse .badArgument s
    else if (s.pathSegs b z).any fun e => window.toNat ≤ e.addr.pos.val then
      refuse .windowConflict s
    else
      done (s.modBeam b fun k => { k with windows := k.windows.set z window.toNat })
  | _, _ => refuse .badArgument s

/-! ## The two refusal counters -/

/-- R69: refuse with OVER LIMIT and count it. -/
def refuseOverLimit (s : State) : Reply :=
  refuse .overLimit (s.modPool fun k => { k with overLimit := k.overLimit.bump })

/-- R71, R77: refuse with POOL SHORT and count it. -/
def refusePoolShort (s : State) : Reply :=
  refuse .poolShort (s.modPool fun k => { k with shortRefusals := k.shortRefusals.bump })

/-! ## Mapping -/

/-- R72: pages needed for n segments of a beam. -/
def State.pagesFor (s : State) (b : Beam) (n : Nat) : Nat := if s.beams[b].anchoring then 2 * n else n

/-- R72: the new entries of a range, pages assigned in ascending order within each group. -/
def newEntries (b : Beam) (z : Zone) (ps : List Pos) (pages : List Page) (anchors : List (Option Page)) :
    List Segment :=
  List.zipWith (fun (p : Pos) (q : Page × Option Page) =>
    (⟨⟨b, z, p⟩, .clearing, q.1, q.2, false, false⟩ : Segment)) ps (List.zip pages anchors)

/-- R72: an accepted MAP SEGMENTS: entries, roles and marks, the anchor record, POOL LOW and the ZERO
job. -/
def State.mapRange (l : Link) (b : Beam) (z : Zone) (ps : List Pos) (s : State) : State :=
  let n := ps.length
  let need := s.pagesFor b n
  let pages := s.lowestFree need
  let anchors := if s.beams[b].anchoring then (pages.drop n).map some else List.replicate n none
  let es := newEntries b z ps (pages.take n) anchors
  let s := s.setSegs (es.foldl (fun t e => insertSeg e t) s.segs)
  let s := s.modPool (Pool.clearMarks pages)
  let s := s.dropAnchor b
  let s := s.noteAllocation need
  s.queueJob (.zero b z ps 0 l)

/-- R71: MAP SEGMENTS and its six checks. -/
def runMapSegments (l : Link) (beam zone first count : Byte) (s : State) : Reply :=
  match beamOf beam, zoneOf zone with
  | some b, some z =>
    if count = 0 || s.beams[b].windows[z] < first.toNat + count.toNat then refuse .badArgument s
    else if s.modelState b ≠ .idle then refuse .beamBusy s
    else if (s.pathSegs b z).any fun e => inRange first.toNat count.toNat e.addr.pos then
      refuse .beamBusy s
    else if s.beams[b].enable && Config.activeLimit < s.activeCount + count.toNat then
      refuseOverLimit s
    else if s.freeCount < s.pagesFor b count.toNat then refusePoolShort s
    else if Config.commandJobLimit ≤ s.commandJobs then refuse .jobListFull s
    else done (s.mapRange l b z (positions first.toNat count.toNat))
  | _, _ => refuse .badArgument s

/-! ## Unmapping -/

/-- R74, check 5: a pending store request addresses a segment of the range. -/
def LinkState.requestsIn (b : Beam) (z : Zone) (first count : Nat) (k : LinkState) : Bool :=
  match k.request with
  | some r => r.addr.beam == b && r.addr.zone == z && inRange first count r.addr.pos
  | none => false

/-- R75: an entry that UNMAP SEGMENTS releases. -/
def releases (b : Beam) (z : Zone) (first count : Nat) (e : Segment) : Bool :=
  e.addr.beam == b && e.addr.zone == z && inRange first count e.addr.pos && e.isMapped

/-- R75: an accepted UNMAP SEGMENTS. -/
def State.unmapRange (b : Beam) (z : Zone) (first count : Nat) (s : State) : State :=
  let gone := s.segs.filter (releases b z first count)
  let s := s.setSegs (s.segs.filter fun e => !releases b z first count e)
  s.dropRepairsOf (pagesHeld gone)

/-- R74: a CAPTURE, RESTORE, CLEAR or FILL of the beam is listed: these are the jobs that mask it. -/
def runUnmapSegments (beam zone first count : Byte) (s : State) : Reply :=
  match beamOf beam, zoneOf zone with
  | some b, some z =>
    if !rangeOk first count then refuse .badArgument s
    else if s.inService b then refuse .beamBusy s
    else if s.hasMaskingJob b then refuse .beamBusy s
    else if (s.pathSegs b z).any fun e =>
        inRange first.toNat count.toNat e.addr.pos && e.state == .clearing then
      refuse .beamBusy s
    else if s.links.toList.any (LinkState.requestsIn b z first.toNat count.toNat) then
      refuse .beamBusy s
    else done (s.unmapRange b z first.toNat count.toNat)
  | _, _ => refuse .badArgument s

/-! ## Pinning -/

/-- R76: set or clear the pinned flag over a range of non-ABSENT entries. -/
def State.pinRange (v : Bool) (b : Beam) (z : Zone) (first count : Nat) (s : State) : State :=
  s.setSegs (s.segs.map fun e =>
    if e.addr.beam == b && e.addr.zone == z && inRange first count e.addr.pos then
      { e with pinned := v }
    else e)

/-- R128: withdraw the entries of newly pinned segments. -/
def State.withdrawRange (b : Beam) (z : Zone) (first count : Nat) (s : State) : State :=
  s.modSched fun k => { k with demand := k.demand.filter fun d =>
    !(d.addr.beam == b && d.addr.zone == z && inRange first count d.addr.pos) }

/-- R76, R128: PIN SEGMENTS. -/
def runPinSegments (beam zone first count : Byte) (s : State) : Reply :=
  match beamOf beam, zoneOf zone with
  | some b, some z =>
    if !rangeOk first count then refuse .badArgument s
    else done ((s.pinRange true b z first.toNat count.toNat).withdrawRange b z first.toNat
      count.toNat)
  | _, _ => refuse .badArgument s

/-- R76: UNPIN SEGMENTS. -/
def runUnpinSegments (beam zone first count : Byte) (s : State) : Reply :=
  match beamOf beam, zoneOf zone with
  | some b, some z =>
    if !rangeOk first count then refuse .badArgument s
    else done (s.pinRange false b z first.toNat count.toNat)
  | _, _ => refuse .badArgument s

/-! ## Anchoring -/

/-- R77: give each non-ABSENT entry of the beam, in table order, the next page of the list. -/
def assignAnchors (b : Beam) : List Page → List Segment → List Segment
  | _, [] => []
  | [], e :: es => e :: assignAnchors b [] es
  | p :: ps, e :: es =>
    if e.addr.beam = b then { e with anchor := some p } :: assignAnchors b ps es
    else e :: assignAnchors b (p :: ps) es

/-- Set a beam's anchoring switch, with the anchor record INVALID (R77, R78). -/
def State.setAnchoringSwitch (b : Beam) (v : Bool) (s : State) : State :=
  (s.modBeam b fun k => { k with anchoring := v }).dropAnchor b

/-- R77: turn anchoring on. -/
def State.anchoringOn (b : Beam) (s : State) : State :=
  let n := (s.segsOf b).length
  let pages := s.lowestFree n
  let s := s.setSegs (assignAnchors b pages s.segs)
  let s := s.modPool (Pool.clearMarks pages)
  (s.setAnchoringSwitch b true).noteAllocation n

/-- R78: turn anchoring off. -/
def State.anchoringOff (b : Beam) (s : State) : State :=
  let gone := (s.segsOf b).flatMap fun e => e.anchor.toList
  let s := s.setSegs (s.segs.map fun e => if e.addr.beam == b then { e with anchor := none } else e)
  (s.dropRepairsOf gone).setAnchoringSwitch b false

/-- R77, R78: SET ANCHORING. -/
def runSetAnchoring (beam mode : Byte) (s : State) : Reply :=
  match beamOf beam with
  | some b =>
    if mode ≠ 0 ∧ mode ≠ 1 then refuse .badArgument s
    else
      let on := mode == 1
      if s.beams[b].anchoring = on then done s
      else if s.hasJob b then refuse .beamBusy s
      else if on then
        if s.freeCount < (s.segsOf b).length then refusePoolShort s
        else done (s.anchoringOn b)
      else done (s.anchoringOff b)
  | none => refuse .badArgument s

/-! ## Enable -/

/-- R70, R116, R132, R154: turning a beam's enable off. The spec gives no order of its effects: the
latch is cleared first, so a FILL of the beam that completes because the aborted CAPTURE leaves the head
of the list (R151) sets it again (DESIGN CHOICE, log entry 28). -/
def State.disableBeam (b : Beam) (s : State) : State :=
  let s := s.modBeam b fun k => { k with enable := false, latch := false }
  (s.abandonPass b).abortCapture b

/-- R70: SET BEAM setting 1. R34 refuses values other than 0 and 1. -/
def setEnable (b : Beam) (v : Int) (s : State) : Reply :=
  if v ≠ 0 ∧ v ≠ 1 then refuse .badArgument s
  else
    let on := v == 1
    if s.beams[b].enable = on then done s
    else if on then
      if Config.activeLimit < s.activeCount + (s.segsOf b).length then refuseOverLimit s
      else done (s.modBeam b fun k => { k with enable := true })
    else done (s.disableBeam b)

end Sys2Proof.Machine
end

