-- ==== Sys2Proof/Machine/Queries.lean ====
section
/-! DEFINITION. The seven queries, each with the fields of its owning chapter in order and in the
sizes of 02 R33, and what its clear option clears. -/

namespace Sys2Proof.Machine

/-! ## Field codes (R33) -/

/-- One byte of a number. -/
def byte1 (n : Nat) : List Byte := leBytes 1 n

/-- A 16-bit counter as two bytes. -/
def counterBytes (c : Counter) : List Byte := leBytes 2 c.toNat

/-- A block number as four bytes. -/
def blockBytes (b : BlockNo) : List Byte := leBytes 4 b.toNat

/-- R33: the timer state, HOLDOVER 0 and RUN 1. -/
def TimerMode.code : TimerMode → Byte
  | .holdover => 0
  | .run _ => 1

/-- R33: the capture status. -/
def CaptureStatus.code : CaptureStatus → Byte
  | .good => 0
  | .badFrame => 1
  | .holdover => 2

/-- R44: the link state, SEARCH 0 and LOCKED 1. -/
def LinkMode.code : LinkMode → Byte
  | .search => 0
  | .locked => 1

/-- R43: the access mode. -/
def Access.code : Access → Byte
  | .background => 0
  | .priority => 1

/-- R117: the trigger mode. -/
def Trigger.code : Trigger → Byte
  | .level => 0
  | .latched => 1

/-- R134: the rotation mode. -/
def Rotation.code : Rotation → Byte
  | .rotating => 0
  | .fixed => 1

/-- R114: the talk state. -/
def TalkState.code : TalkState → Byte
  | .quiet => 0
  | .farOnly => 1
  | .nearOnly => 2
  | .double => 3

/-- R114: the pending candidate, 0 for none. -/
def candidateCode : Option TalkState → Byte
  | none => 0
  | some t => t.code + 1

/-- R163: the model state. -/
def ModelState.code : ModelState → Byte
  | .idle => 0
  | .capturing => 1
  | .restoring => 2
  | .clearing => 3

/-- R79: the state of an entry that is not ABSENT. -/
def SegState.code : SegState → Byte
  | .clearing => 1
  | .mapped => 2

/-- R180: the last reader. -/
def Reader.code : Reader → Byte
  | .estimator => 0
  | .copy => 1
  | .store => 2
  | .scrub => 3

/-- The reply of a query: the record as it stands, and the clear applied after it when asked
(R33). -/
def queryReply (clear : Byte) (record : List Byte) (cleared : State → State) (s : State) : Reply :=
  match clearOf clear with
  | none => refuse .badArgument s
  | some false => report s record
  | some true => report (cleared s) record

/-! ## QUERY TIMER (R15) -/

/-- R15: the record. -/
def timerRecord (t : Timer) : List Byte :=
  t.mode.code :: (blockBytes t.block ++ byte1 t.goodRun ++ byte1 t.badRun ++ byte1 t.lockCount
    ++ [t.status.code] ++ counterBytes t.badFrames ++ counterBytes t.earlyFrames
    ++ counterBytes t.watchExpiries ++ counterBytes t.holdoverEntries ++ counterBytes t.relocks)

/-- R14: the five counters cleared. -/
def Timer.clearCounters (t : Timer) : Timer :=
  { t with badFrames := 0, earlyFrames := 0, watchExpiries := 0, holdoverEntries := 0, relocks := 0 }

/-- R15: QUERY TIMER. -/
def runQueryTimer (clear : Byte) (s : State) : Reply :=
  queryReply clear (timerRecord s.timer) (State.modTimer Timer.clearCounters) s

/-! ## QUERY LINK (R44) -/

/-- R44: the record of a link. -/
def linkRecord (l : Link) (k : LinkState) : List Byte :=
  byte1 l.val ++ [k.mode.code] ++ byte1 k.channels ++ byte1 k.fill ++ byte1 k.badRun
    ++ [k.expected] ++ byte1 k.places.length ++ [k.notices, k.mask] ++ leBytes 2 k.freeze.toNat
    ++ [k.access.code] ++ byte1 k.receive.length ++ k.receive.flatMap (fun b => byte1 b.val)
    ++ counterBytes k.badFrames ++ counterBytes k.overruns ++ counterBytes k.slipDrops
    ++ counterBytes k.repeats ++ counterBytes k.underruns ++ counterBytes k.cmdOverruns
    ++ counterBytes k.lostRecords ++ counterBytes k.lapses

/-- R44: the eight counters cleared. -/
def LinkState.clearCounters (k : LinkState) : LinkState :=
  { k with
    badFrames := 0, overruns := 0, slipDrops := 0, repeats := 0, underruns := 0, cmdOverruns := 0,
    lostRecords := 0, lapses := 0 }

/-- R44: QUERY LINK reports the issuing link. -/
def runQueryLink (l : Link) (clear : Byte) (s : State) : Reply :=
  queryReply clear (linkRecord l s.links[l]) (State.modLink l LinkState.clearCounters) s

/-! ## QUERY PATH (R79) -/

/-- R79: the seven bytes of one position. -/
def entryBytes : Option Segment → List Byte
  | none => 0 :: (leBytes 2 65535 ++ leBytes 2 65535 ++ [0, 0])
  | some e =>
    e.state.code :: (leBytes 2 e.page.val
      ++ (match e.anchor with | some p => leBytes 2 p.val | none => leBytes 2 65535)
      ++ [boolByte e.pinned, boolByte e.damaged])

/-- R79: the record of a path from a first position on. -/
def State.pathRecord (s : State) (b : Beam) (z : Zone) (first : Pos) : List Byte :=
  let k := s.beams[b]
  let es := s.pathSegs b z
  let n := min 32 (64 - first.val)
  byte1 b.val ++ byte1 z.val ++ byte1 k.windows[z] ++ [boolByte k.anchoring, boolByte k.enable]
    ++ byte1 first.val ++ byte1 n ++ byte1 (es.countP Segment.isMapped)
    ++ byte1 (es.countP fun e => e.state == .clearing) ++ byte1 (es.countP (·.pinned))
    ++ byte1 (es.countP (·.damaged)) ++ leBytes 8 s.zones[z].px
    ++ leBytes 8 (windowEnergy s.zones[z].energies k.windows[z])
    ++ (positions first.val n).flatMap fun p => entryBytes (s.seg? ⟨b, z, p⟩)

/-- R79: QUERY PATH. -/
def runQueryPath (beam zone first : Byte) (s : State) : Reply :=
  match beamOf beam, zoneOf zone, posOf first with
  | some b, some z, some p => report s (s.pathRecord b z p)
  | _, _, _ => refuse .badArgument s

/-! ## QUERY POOL (R80) -/

/-- R80: allocated pages whose written mark is clear. -/
def State.unwrittenPages (s : State) : Nat :=
  (pagesHeld s.segs).countP fun p => !s.pool.written.getLsbD p.val

/-- R80: the record of the page pool. -/
def State.poolRecord (s : State) : List Byte :=
  leBytes 2 s.freeCount
    ++ (match s.lowestFree 1 with | p :: _ => leBytes 2 p.val | [] => leBytes 2 65535)
    ++ leBytes 2 s.segs.length ++ leBytes 2 (s.segs.countP fun e => e.anchor.isSome)
    ++ leBytes 2 s.unwrittenPages ++ leBytes 2 (s.segs.countP fun e => e.state == .clearing)
    ++ leBytes 2 (s.segs.countP (·.damaged)) ++ leBytes 2 s.activeCount
    ++ leBytes 2 (beamSet fun b => s.beams[b].enable).toNat
    ++ (List.finRange 16).flatMap (fun b => leBytes 2 (s.segsOf b).length)
    ++ counterBytes s.pool.lowRaises ++ counterBytes s.pool.shortRefusals
    ++ counterBytes s.pool.overLimit

/-- R80: the three counters cleared. -/
def Pool.clearCounters (k : Pool) : Pool :=
  { k with lowRaises := 0, shortRefusals := 0, overLimit := 0 }

/-- R80: QUERY POOL. -/
def runQueryPool (clear : Byte) (s : State) : Reply :=
  queryReply clear s.poolRecord (State.modPool Pool.clearCounters) s

/-! ## QUERY SCHEDULER (R134) -/

/-- R134: the twelve bytes of a lane. Of a free lane R134 gives only the first three; the others are
free values (log entry 11). -/
def laneBytes (draws : Nat) (n : LaneNo) : Option Pass → List Byte
  | some p =>
    byte1 p.beam.val ++ byte1 (p.point / 64) ++ byte1 (p.point % 64) ++ [boolByte p.held]
      ++ leBytes 2 p.age ++ leBytes 2 p.updated ++ blockBytes p.grant
  | none =>
    let v := Config.freeLaneFields draws n
    [255, 255, 255, boolByte v.1] ++ leBytes 2 v.2.1.toNat ++ leBytes 2 v.2.2.1.val
      ++ blockBytes v.2.2.2

/-- R134: the beams whose lanes are held, as the latest formation left them. -/
def State.heldBeam (s : State) (b : Beam) : Bool :=
  s.sched.lanes.toList.any fun p => match p with
    | some p => p.beam == b && p.held
    | none => false

/-- A set of beams as two bytes (R33). -/
def setBytes (p : Beam → Bool) : List Byte := leBytes 2 (beamSet p).toNat

/-- R134: the record of the scheduler. -/
def State.schedulerRecord (s : State) : List Byte :=
  let k := s.sched
  setBytes (fun b => s.beams[b].requests && !s.inService b) ++ setBytes s.masked
    ++ setBytes s.inService ++ setBytes s.heldBeam ++ setBytes (fun b => s.beams[b].latch)
    ++ setBytes (fun b => s.beams[b].set.trigger == .latched) ++ [k.rotation.code]
    ++ byte1 k.bottom.val ++ leBytes 2 k.holdLimit ++ blockBytes k.demandBlock
    ++ leBytes 2 k.listed ++ leBytes 2 k.granted
    ++ (List.finRange 4).flatMap (fun n => laneBytes s.draws n k.lanes[n])
    ++ (List.finRange 16).flatMap (fun b => counterBytes s.beams[b].passes)
    ++ counterBytes k.holdAbandons ++ counterBytes k.abandons

/-- R134: the eighteen counters cleared. -/
def State.clearSchedulerCounters (s : State) : State :=
  (s.modSched fun k => { k with holdAbandons := 0, abandons := 0 }).mapBeams fun k =>
    { k with passes := 0 }

/-- R134: QUERY SCHEDULER; each execution draws fresh free values. -/
def runQueryScheduler (clear : Byte) (s : State) : Reply :=
  queryReply clear s.schedulerRecord State.clearSchedulerCounters s.draw

/-! ## QUERY MEMORY (R180) -/

/-- R180: the last-uncorrectable fields, 0 when there is none. -/
def lastBadBytes : Option LastBad → List Byte
  | none => 0 :: (leBytes 2 0 ++ byte1 0 ++ leBytes 4 0 ++ byte1 0)
  | some r => 1 :: (leBytes 2 r.page.val ++ byte1 r.word ++ blockBytes r.block ++ [r.reader.code])

/-- R180: the record of the memory port. -/
def portRecord (k : Port) : List Byte :=
  counterBytes k.singleBit ++ counterBytes k.uncorrectable ++ lastBadBytes k.last
    ++ byte1 k.repairs.length ++ counterBytes k.repairsWritten ++ counterBytes k.notKept
    ++ leBytes 2 k.scrubPos ++ counterBytes k.scrubRounds ++ byte1 k.share
    ++ blockBytes k.latestBlock ++ leBytes 2 k.latest.segmentReads ++ leBytes 2 k.latest.store
    ++ leBytes 2 k.latest.copy ++ leBytes 2 k.latest.adaptation ++ byte1 k.latest.scrub

/-- R179, R180: the error record and the three counters cleared. -/
def Port.clearRecord (k : Port) : Port :=
  { k with
    singleBit := 0, uncorrectable := 0, last := none, repairsWritten := 0, notKept := 0,
    scrubRounds := 0 }

/-- R180: QUERY MEMORY. -/
def runQueryMemory (clear : Byte) (s : State) : Reply :=
  queryReply clear (portRecord s.port) (State.modPort Port.clearRecord) s

/-! ## QUERY BEAM (R194, R97, R114, R163) -/

/-- R194: the output stage's part, 27 bytes. -/
def outputPart (b : Beam) (k : BeamState) : List Byte :=
  byte1 b.val ++ [boolByte k.enable, boolByte k.anchoring] ++ byte1 k.set.mu
    ++ [k.set.trigger.code] ++ leBytes 2 k.out.target ++ leBytes 2 k.out.current
    ++ leBytes 2 k.out.applied ++ leBytes 2 k.set.suppression ++ leBytes 2 k.set.doubleTalk
    ++ leBytes 2 k.set.restore ++ leBytes 2 k.set.ramp ++ leBytes 2 k.set.limit
    ++ blockBytes k.out.block ++ counterBytes k.out.clamps

/-- R97: the estimator's part, 78 bytes. -/
def estimatorPart (k : BeamState) : List Byte :=
  let e := k.est
  blockBytes e.block ++ leBytes 2 e.reads ++ leBytes 2 e.zeroed ++ leBytes 8 e.ed ++ leBytes 8 e.ey
    ++ leBytes 8 e.ee ++ leBytes 8 e.pd ++ leBytes 8 e.py ++ leBytes 8 e.pe ++ leBytes 8 e.normaliser
    ++ leBytes 8 k.set.delta ++ counterBytes e.estSats ++ counterBytes e.errSats
    ++ counterBytes e.uncorrectable

/-- R114: the talk detector's part, 31 bytes. -/
def talkPart (k : BeamState) : List Byte :=
  let t := k.talk
  [t.state.code, candidateCode t.candidate] ++ byte1 t.run ++ byte1 t.divergenceRun
    ++ leBytes 2 t.captureRun ++ [boolByte t.request] ++ blockBytes t.block
    ++ [boolByte t.fe, boolByte t.ne] ++ leBytes 8 t.xb ++ leBytes 8 t.pxb
    ++ counterBytes t.divergences

/-- R163: zone and position of a job's progress. -/
def Job.progress : Job → Nat × Nat
  | .capture _ _ n _ => (n / 64, n % 64)
  | .restore _ _ n _ => (n / 64, n % 64)
  | .clear _ _ n => (n / 64, n % 64)
  | .fill _ z _ _ _ n _ => (z.val, n)
  | .zero _ z ps n _ => (z.val, match ps[n]? with | some p => p.val | none => 0)

/-- R163: the copy unit's part, 14 bytes. -/
def State.copyPart (s : State) (b : Beam) : List Byte :=
  let a := s.beams[b].anchor
  (s.modelState b).code :: boolByte a.valid :: (blockBytes a.block ++ counterBytes a.captures
    ++ counterBytes a.aborted ++ byte1 (s.jobs.countP fun j => j.beam == b)
    ++ (match s.jobs.findIdx? fun j => j.beam == b with | some i => byte1 i | none => byte1 0)
    ++ (match s.jobs.find? fun j => j.beam == b with
        | some j => byte1 j.progress.1 ++ byte1 j.progress.2
        | none => [255, 255]))

/-- R194: the seven counters cleared. -/
def BeamState.clearCounters (k : BeamState) : BeamState :=
  { k with
    out := { k.out with clamps := 0 }
    est := { k.est with estSats := 0, errSats := 0, uncorrectable := 0 }
    talk := { k.talk with divergences := 0 }
    anchor := { k.anchor with captures := 0, aborted := 0 } }

/-- R194: the record of a beam: four parts. -/
def State.beamRecord (s : State) (b : Beam) : List Byte :=
  outputPart b s.beams[b] ++ estimatorPart s.beams[b] ++ talkPart s.beams[b] ++ s.copyPart b

/-- R194: QUERY BEAM. -/
def runQueryBeam (beam clear : Byte) (s : State) : Reply :=
  match beamOf beam with
  | some b => queryReply clear (s.beamRecord b) (State.modBeam b BeamState.clearCounters) s
  | none => refuse .badArgument s

end Sys2Proof.Machine
end

