-- ==== Sys2Proof/Machine/Settings.lean ====
section
/-! DEFINITION. The settings of SET BEAM (02 R34) and SET DEVICE (02 R35), each with the range its
owning chapter gives, and the two commands that choose among them. -/

namespace Sys2Proof.Machine

/-- R34: store an integer setting of a beam, clamped to its range; DONE or CLAMPED. -/
def storeSetting (b : Beam) (lo hi : Nat) (v : Int) (put : Nat → BeamSettings → BeamSettings)
    (s : State) : Reply :=
  (s.modBeam b fun k => { k with set := put (clampSetting lo hi v) k.set }, settingStatus lo hi v)

/-- R141: setting 2, the step mu; R128: a mu of 0 masks the beam and withdraws its ungranted
entries. -/
def setStep (b : Beam) (v : Int) (s : State) : Reply :=
  let r := storeSetting b 0 255 v (fun n k => { k with mu := n }) s
  (if clampSetting 0 255 v = 0 then r.1.withdraw b else r.1, r.2)

/-- R117: setting 13, the trigger mode; R34 refuses values other than 0 and 1. -/
def setTrigger (b : Beam) (v : Int) (s : State) : Reply :=
  if v = 0 then done (s.modBeam b fun k => { k with set := { k.set with trigger := .level } })
  else if v = 1 then done (s.modBeam b fun k => { k with set := { k.set with trigger := .latched } })
  else refuse .badArgument s

/-- R92: setting 3, the regularisation, used from the next normaliser formed. -/
def setRegularisation (b : Beam) (v : Int) (s : State) : Reply :=
  storeSetting b 65536 1099511627776 v (fun n k => { k with delta := n }) s

/-- R102: setting 4, the far threshold F. -/
def setFarThreshold (b : Beam) (v : Int) (s : State) : Reply :=
  storeSetting b 0 1099511627776 v (fun n k => { k with farThreshold := n }) s

/-- R102: setting 5, the coupling K. -/
def setCoupling (b : Beam) (v : Int) (s : State) : Reply :=
  storeSetting b 1 65535 v (fun n k => { k with coupling := n }) s

/-- R102: setting 6, the near floor N. -/
def setNearFloor (b : Beam) (v : Int) (s : State) : Reply :=
  storeSetting b 0 1099511627776 v (fun n k => { k with nearFloor := n }) s

/-- R104: setting 7, the entry count C_fast. -/
def setEntryCount (b : Beam) (v : Int) (s : State) : Reply :=
  storeSetting b 1 63 v (fun n k => { k with entryCount := n }) s

/-- R104: setting 8, the normal count C_norm. -/
def setNormalCount (b : Beam) (v : Int) (s : State) : Reply :=
  storeSetting b 1 63 v (fun n k => { k with normalCount := n }) s

/-- R104: setting 9, the hangover count C_hold. -/
def setHangoverCount (b : Beam) (v : Int) (s : State) : Reply :=
  storeSetting b 1 63 v (fun n k => { k with hangoverCount := n }) s

/-- R108: setting 10, the divergence margin M. -/
def setDivergenceMargin (b : Beam) (v : Int) (s : State) : Reply :=
  storeSetting b 0 255 v (fun n k => { k with margin := n }) s

/-- R108: setting 11, the divergence count K_div. -/
def setDivergenceCount (b : Beam) (v : Int) (s : State) : Reply :=
  storeSetting b 1 255 v (fun n k => { k with divergenceCount := n }) s

/-- R112: setting 12, the target ratio Q_target. -/
def setTargetRatio (b : Beam) (v : Int) (s : State) : Reply :=
  storeSetting b 1 255 v (fun n k => { k with targetRatio := n }) s

/-- R111: setting 14, the capture ratio Q_cap. -/
def setCaptureRatio (b : Beam) (v : Int) (s : State) : Reply :=
  storeSetting b 1 255 v (fun n k => { k with captureRatio := n }) s

/-- R111: setting 15, the capture count C_cap. -/
def setCaptureCount (b : Beam) (v : Int) (s : State) : Reply :=
  storeSetting b 1 65535 v (fun n k => { k with captureCount := n }) s

/-- R111: setting 16, the capture interval I_cap. -/
def setCaptureInterval (b : Beam) (v : Int) (s : State) : Reply :=
  storeSetting b 0 1000000 v (fun n k => { k with captureInterval := n }) s

/-- R192: setting 17, the suppression gain. -/
def setSuppressionGain (b : Beam) (v : Int) (s : State) : Reply :=
  storeSetting b 0 32768 v (fun n k => { k with suppression := n }) s

/-- R192: setting 18, the double-talk gain. -/
def setDoubleTalkGain (b : Beam) (v : Int) (s : State) : Reply :=
  storeSetting b 0 32768 v (fun n k => { k with doubleTalk := n }) s

/-- R192: setting 19, the restore gain. -/
def setRestoreGain (b : Beam) (v : Int) (s : State) : Reply :=
  storeSetting b 0 32768 v (fun n k => { k with restore := n }) s

/-- R192: setting 20, the ramp step. -/
def setRampStep (b : Beam) (v : Int) (s : State) : Reply :=
  storeSetting b 1 32768 v (fun n k => { k with ramp := n }) s

/-- R192: setting 21, the beam limit. -/
def setBeamLimit (b : Beam) (v : Int) (s : State) : Reply :=
  storeSetting b 1 32767 v (fun n k => { k with limit := n }) s

/-- R34: SET BEAM: an unknown beam or setting number is BAD ARGUMENT. -/
def runSetBeam (beam setting : Byte) (value : BitVec 64) (s : State) : Reply :=
  let v := value.toInt
  match beamOf beam, setting.toNat with
  | some b, 1 => setEnable b v s
  | some b, 2 => setStep b v s
  | some b, 3 => setRegularisation b v s
  | some b, 4 => setFarThreshold b v s
  | some b, 5 => setCoupling b v s
  | some b, 6 => setNearFloor b v s
  | some b, 7 => setEntryCount b v s
  | some b, 8 => setNormalCount b v s
  | some b, 9 => setHangoverCount b v s
  | some b, 10 => setDivergenceMargin b v s
  | some b, 11 => setDivergenceCount b v s
  | some b, 12 => setTargetRatio b v s
  | some b, 13 => setTrigger b v s
  | some b, 14 => setCaptureRatio b v s
  | some b, 15 => setCaptureCount b v s
  | some b, 16 => setCaptureInterval b v s
  | some b, 17 => setSuppressionGain b v s
  | some b, 18 => setDoubleTalkGain b v s
  | some b, 19 => setRestoreGain b v s
  | some b, 20 => setRampStep b v s
  | some b, 21 => setBeamLimit b v s
  | _, _ => refuse .badArgument s

/-! ## Device settings -/

/-- R169: setting 1, the client share S. -/
def setClientShare (v : Int) (s : State) : Reply :=
  (s.modPort fun k => { k with share := clampSetting 1 4 v }, settingStatus 1 4 v)

/-- R131: setting 2, the hold limit. -/
def setHoldLimit (v : Int) (s : State) : Reply :=
  (s.modSched fun k => { k with holdLimit := clampSetting 1 65535 v }, settingStatus 1 65535 v)

/-- R22: setting 3, the link lock count. -/
def setLinkLockCount (v : Int) (s : State) : Reply :=
  (s.setLinkLock (clampSetting 1 8 v), settingStatus 1 8 v)

/-- R11: setting 4, the capture lock count. -/
def setCaptureLockCount (v : Int) (s : State) : Reply :=
  (s.modTimer fun k => { k with lockCount := clampSetting 1 8 v }, settingStatus 1 8 v)

/-- R49: setting 5, a zone's limit. -/
def setZoneLimit (z : Zone) (v : Int) (s : State) : Reply :=
  (s.modZone z fun k => { k with limit := clampSetting 1 32767 v }, settingStatus 1 32767 v)

/-- R49: setting 6, a zone's mute; R35 refuses values other than 0 and 1. -/
def setZoneMute (z : Zone) (v : Int) (s : State) : Reply :=
  if v = 0 then done (s.modZone z fun k => { k with mute := false })
  else if v = 1 then done (s.modZone z fun k => { k with mute := true })
  else refuse .badArgument s

/-- R35: SET DEVICE: an unknown setting number or an index out of range is BAD ARGUMENT. -/
def runSetDevice (setting index : Byte) (value : BitVec 32) (s : State) : Reply :=
  let v := value.toInt
  match setting.toNat, index.toNat, zoneOf index with
  | 1, 0, _ => setClientShare v s
  | 2, 0, _ => setHoldLimit v s
  | 3, 0, _ => setLinkLockCount v s
  | 4, 0, _ => setCaptureLockCount v s
  | 5, _, some z => setZoneLimit z v s
  | 6, _, some z => setZoneMute z v s
  | _, _, _ => refuse .badArgument s

end Sys2Proof.Machine
end

