-- ==== Sys2Proof/Machine/Execute.lean ====
section
/-! DEFINITION. The command places (02 R28 to R30): arrival, execution in arrival order, and the
response that a place then holds. -/

namespace Sys2Proof.Machine

/-- R29: carry out a command taken for execution on a link. -/
def runCommand (l : Link) (c : Command) (s : State) : Execution :=
  match c with
  | .setBeam b k v => answered (runSetBeam b k v s)
  | .setDevice k i v => answered (runSetDevice k i v s)
  | .setMix z c g => answered (runSetMix l z c g s)
  | .setReceive bs => answered (runSetReceive l bs s)
  | .freeze m => answered (runFreeze l m s)
  | .thaw m => answered (runThaw l m s)
  | .setAccessMode m => answered (runSetAccessMode l m s)
  | .setNoticeMask f => answered (runSetNoticeMask l f s)
  | .clearNotices f => answered (runClearNotices l f s)
  | .setRotation m => answered (runSetRotation m s)
  | .setBottom b => answered (runSetBottom b s)
  | .retrainBeam b => answered (runRetrainBeam b s)
  | .resetProcessing => answered (runResetProcessing s)
  | .mapSegments b z f c => answered (runMapSegments l b z f c s)
  | .unmapSegments b z f c => answered (runUnmapSegments b z f c s)
  | .setWindow b z w => answered (runSetWindow b z w s)
  | .pinSegments b z f c => answered (runPinSegments b z f c s)
  | .unpinSegments b z f c => answered (runUnpinSegments b z f c s)
  | .setAnchoring b m => answered (runSetAnchoring b m s)
  | .checkpointBeam b => answered (runCheckpointBeam l b s)
  | .restoreBeam b => answered (runRestoreBeam l b s)
  | .clearBeam b => answered (runClearBeam l b s)
  | .fillSegments b z f c v => answered (runFillSegments l b z f c v s)
  | .readCoefficients b z p f c => runReadCoefficients l b z p f c s
  | .writeCoefficients b z p f vs => runWriteCoefficients l b z p f vs s
  | .queryBeam b c => answered (runQueryBeam b c s)
  | .queryPath b z f => answered (runQueryPath b z f s)
  | .queryPool c => answered (runQueryPool c s)
  | .queryScheduler c => answered (runQueryScheduler c s)
  | .queryLink c => answered (runQueryLink l c s)
  | .queryMemory c => answered (runQueryMemory c s)
  | .queryTimer c => answered (runQueryTimer c s)
  | .malformed _ => answered (refuse .malformed s)
  | .unknown _ => answered (refuse .unknownCommand s)

/-- The place holds the command being executed. -/
def Place.isExecuting (p : Place) : Bool :=
  match p.stage with
  | .executing _ => true
  | .queued _ => false
  | .answer _ _ => false

/-- The command of a QUEUED place. -/
def Place.queued? (p : Place) : Option Command :=
  match p.stage with
  | .queued c => some c
  | .executing _ => none
  | .answer _ _ => none

/-- R29: the command a link may take: its oldest QUEUED one, when none is EXECUTING. -/
def nextCommand (ps : List Place) : Option Command :=
  if ps.any Place.isExecuting then none else ps.findSome? Place.queued?

/-- Change the first place for which a test holds. -/
def modFirst (p : Place → Bool) (f : Place → Place) : List Place → List Place
  | [] => []
  | x :: xs => if p x then f x :: xs else x :: modFirst p f xs

/-- R29: the oldest QUEUED place becomes EXECUTING. -/
def startNext (ps : List Place) : List Place :=
  modFirst (fun p => p.queued?.isSome)
    (fun p => match p.stage with
      | .queued c => { p with stage := .executing c }
      | .executing _ => p
      | .answer _ _ => p) ps

/-- R29: the response is formed and the EXECUTING place enters ANSWER. -/
def answerPlaces (r : Response) (ps : List Place) : List Place :=
  modFirst Place.isExecuting (fun p => { p with stage := .answer (r.record p.tag) 0 }) ps

/-- The response of the EXECUTING command of a link. -/
def State.answer (l : Link) (r : Response) (s : State) : State :=
  s.modLink l fun k => { k with places := answerPlaces r k.places }

/-- R29: take and execute commands of a link until one stays EXECUTING or none is QUEUED. The fuel is
at least the number of QUEUED commands. -/
def State.drainFuel (l : Link) : Nat → State → State
  | 0, s => s
  | n + 1, s =>
    match nextCommand s.links[l].places with
    | none => s
    | some c =>
      let r := runCommand l c (s.modLink l fun k => { k with places := startNext k.places })
      match r.2 with
      | none => r.1
      | some a => State.drainFuel l n (r.1.answer l a)

/-- R29: execute what the link may execute now. -/
def State.drain (l : Link) (s : State) : State := State.drainFuel l s.links[l].places.length s

/-- R28: a command arrives on a link: it takes a free place and is executed as R29 allows, or is
discarded with OVERRUN when all four are occupied. In SEARCH no command is taken. -/
def State.arrive (l : Link) (tag : Byte) (c : Command) (s : State) : State :=
  match s.links[l].mode with
  | .search => s
  | .locked =>
    if s.links[l].places.length < 4 then
      (s.modLink l fun k => { k with places := k.places ++ [⟨tag, .queued c⟩] }).drain l
    else
      s.modLink l fun k => { k.raise .overrun with cmdOverruns := k.cmdOverruns.bump }

/-- R20: a lost record or discarded piece. -/
def LinkState.lose (n : Nat) (k : LinkState) : LinkState :=
  { k with lostRecords := k.lostRecords.add n }

/-- R20, R28: a record with more parameters than a record can have (R17) has a malformed first piece,
which is discarded and counted; any other record is its command. -/
def State.submit (l : Link) (tag number : Byte) (params : List Byte) (s : State) : State :=
  if params.length ≤ maxParams then s.arrive l tag (parseCommand number params)
  else
    match s.links[l].mode with
    | .search => s
    | .locked => s.modLink l (LinkState.lose 1)

end Sys2Proof.Machine
end

