-- ==== Sys2Proof/Machine/SettingRows.lean ====
section
/-! DEFINITION. The rows of SET BEAM (02 R34) and SET DEVICE (02 R35), one for each setting: a whole
command record arriving on a link (log entry 7). -/

namespace Sys2Proof.Machine

/-- The outcome of every command: a next state. -/
abbrev Outcome := Host.Outcome State Fault Refusal

/-- SET_BEAM_ENABLE (R70): SET BEAM setting 1. -/
def execSetBeamEnable (l : Link) (tag beam : Byte) (value : BitVec 64) (s : State) : Outcome :=
  .next (s.arrive l tag (.setBeam beam 1 value))

/-- SET_BEAM_STEP (R141): SET BEAM setting 2. -/
def execSetBeamStep (l : Link) (tag beam : Byte) (value : BitVec 64) (s : State) : Outcome :=
  .next (s.arrive l tag (.setBeam beam 2 value))

/-- SET_BEAM_REGULARISATION (R92): SET BEAM setting 3. -/
def execSetBeamRegularisation (l : Link) (tag beam : Byte) (value : BitVec 64) (s : State) : Outcome :=
  .next (s.arrive l tag (.setBeam beam 3 value))

/-- SET_BEAM_FAR_THRESHOLD (R102): SET BEAM setting 4. -/
def execSetBeamFarThreshold (l : Link) (tag beam : Byte) (value : BitVec 64) (s : State) : Outcome :=
  .next (s.arrive l tag (.setBeam beam 4 value))

/-- SET_BEAM_COUPLING (R102): SET BEAM setting 5. -/
def execSetBeamCoupling (l : Link) (tag beam : Byte) (value : BitVec 64) (s : State) : Outcome :=
  .next (s.arrive l tag (.setBeam beam 5 value))

/-- SET_BEAM_NEAR_FLOOR (R102): SET BEAM setting 6. -/
def execSetBeamNearFloor (l : Link) (tag beam : Byte) (value : BitVec 64) (s : State) : Outcome :=
  .next (s.arrive l tag (.setBeam beam 6 value))

/-- SET_BEAM_ENTRY_COUNT (R104): SET BEAM setting 7. -/
def execSetBeamEntryCount (l : Link) (tag beam : Byte) (value : BitVec 64) (s : State) : Outcome :=
  .next (s.arrive l tag (.setBeam beam 7 value))

/-- SET_BEAM_NORMAL_COUNT (R104): SET BEAM setting 8. -/
def execSetBeamNormalCount (l : Link) (tag beam : Byte) (value : BitVec 64) (s : State) : Outcome :=
  .next (s.arrive l tag (.setBeam beam 8 value))

/-- SET_BEAM_HANGOVER_COUNT (R104): SET BEAM setting 9. -/
def execSetBeamHangoverCount (l : Link) (tag beam : Byte) (value : BitVec 64) (s : State) : Outcome :=
  .next (s.arrive l tag (.setBeam beam 9 value))

/-- SET_BEAM_DIVERGENCE_MARGIN (R108): SET BEAM setting 10. -/
def execSetBeamDivergenceMargin (l : Link) (tag beam : Byte) (value : BitVec 64) (s : State) : Outcome :=
  .next (s.arrive l tag (.setBeam beam 10 value))

/-- SET_BEAM_DIVERGENCE_COUNT (R108): SET BEAM setting 11. -/
def execSetBeamDivergenceCount (l : Link) (tag beam : Byte) (value : BitVec 64) (s : State) : Outcome :=
  .next (s.arrive l tag (.setBeam beam 11 value))

/-- SET_BEAM_TARGET_RATIO (R112): SET BEAM setting 12. -/
def execSetBeamTargetRatio (l : Link) (tag beam : Byte) (value : BitVec 64) (s : State) : Outcome :=
  .next (s.arrive l tag (.setBeam beam 12 value))

/-- SET_BEAM_TRIGGER (R117): SET BEAM setting 13. -/
def execSetBeamTrigger (l : Link) (tag beam : Byte) (value : BitVec 64) (s : State) : Outcome :=
  .next (s.arrive l tag (.setBeam beam 13 value))

/-- SET_BEAM_CAPTURE_RATIO (R111): SET BEAM setting 14. -/
def execSetBeamCaptureRatio (l : Link) (tag beam : Byte) (value : BitVec 64) (s : State) : Outcome :=
  .next (s.arrive l tag (.setBeam beam 14 value))

/-- SET_BEAM_CAPTURE_COUNT (R111): SET BEAM setting 15. -/
def execSetBeamCaptureCount (l : Link) (tag beam : Byte) (value : BitVec 64) (s : State) : Outcome :=
  .next (s.arrive l tag (.setBeam beam 15 value))

/-- SET_BEAM_CAPTURE_INTERVAL (R111): SET BEAM setting 16. -/
def execSetBeamCaptureInterval (l : Link) (tag beam : Byte) (value : BitVec 64) (s : State) : Outcome :=
  .next (s.arrive l tag (.setBeam beam 16 value))

/-- SET_BEAM_SUPPRESSION_GAIN (R192): SET BEAM setting 17. -/
def execSetBeamSuppressionGain (l : Link) (tag beam : Byte) (value : BitVec 64) (s : State) : Outcome :=
  .next (s.arrive l tag (.setBeam beam 17 value))

/-- SET_BEAM_DOUBLE_TALK_GAIN (R192): SET BEAM setting 18. -/
def execSetBeamDoubleTalkGain (l : Link) (tag beam : Byte) (value : BitVec 64) (s : State) : Outcome :=
  .next (s.arrive l tag (.setBeam beam 18 value))

/-- SET_BEAM_RESTORE_GAIN (R192): SET BEAM setting 19. -/
def execSetBeamRestoreGain (l : Link) (tag beam : Byte) (value : BitVec 64) (s : State) : Outcome :=
  .next (s.arrive l tag (.setBeam beam 19 value))

/-- SET_BEAM_RAMP_STEP (R192): SET BEAM setting 20. -/
def execSetBeamRampStep (l : Link) (tag beam : Byte) (value : BitVec 64) (s : State) : Outcome :=
  .next (s.arrive l tag (.setBeam beam 20 value))

/-- SET_BEAM_BEAM_LIMIT (R192): SET BEAM setting 21. -/
def execSetBeamBeamLimit (l : Link) (tag beam : Byte) (value : BitVec 64) (s : State) : Outcome :=
  .next (s.arrive l tag (.setBeam beam 21 value))

/-- SET_DEVICE_CLIENT_SHARE (R169): SET DEVICE setting 1. -/
def execSetDeviceClientShare (l : Link) (tag index : Byte) (value : BitVec 32) (s : State) : Outcome :=
  .next (s.arrive l tag (.setDevice 1 index value))

/-- SET_DEVICE_HOLD_LIMIT (R131): SET DEVICE setting 2. -/
def execSetDeviceHoldLimit (l : Link) (tag index : Byte) (value : BitVec 32) (s : State) : Outcome :=
  .next (s.arrive l tag (.setDevice 2 index value))

/-- SET_DEVICE_LINK_LOCK_COUNT (R22): SET DEVICE setting 3. -/
def execSetDeviceLinkLockCount (l : Link) (tag index : Byte) (value : BitVec 32) (s : State) : Outcome :=
  .next (s.arrive l tag (.setDevice 3 index value))

/-- SET_DEVICE_CAPTURE_LOCK_COUNT (R11): SET DEVICE setting 4. -/
def execSetDeviceCaptureLockCount (l : Link) (tag index : Byte) (value : BitVec 32) (s : State) : Outcome :=
  .next (s.arrive l tag (.setDevice 4 index value))

/-- SET_DEVICE_ZONE_LIMIT (R49): SET DEVICE setting 5. -/
def execSetDeviceZoneLimit (l : Link) (tag index : Byte) (value : BitVec 32) (s : State) : Outcome :=
  .next (s.arrive l tag (.setDevice 5 index value))

/-- SET_DEVICE_ZONE_MUTE (R49): SET DEVICE setting 6. -/
def execSetDeviceZoneMute (l : Link) (tag index : Byte) (value : BitVec 32) (s : State) : Outcome :=
  .next (s.arrive l tag (.setDevice 6 index value))

end Sys2Proof.Machine
end

