-- ==== Sys2Proof/Machine/CommandRows.lean ====
section
/-! DEFINITION. The rows of the other client commands (02 R32): a whole command record arriving on a
link (log entry 7). -/

namespace Sys2Proof.Machine

/-- SET_MIX (R46). -/
def execSetMix (l : Link) (tag zone channel : Byte) (gain : BitVec 16) (s : State) : Outcome :=
  .next (s.arrive l tag (.setMix zone channel gain))

/-- FREEZE (R42). -/
def execFreeze (l : Link) (tag : Byte) (beams : BitVec 16) (s : State) : Outcome :=
  .next (s.arrive l tag (.freeze beams))

/-- THAW (R42). -/
def execThaw (l : Link) (tag : Byte) (beams : BitVec 16) (s : State) : Outcome :=
  .next (s.arrive l tag (.thaw beams))

/-- SET_ACCESS_MODE (R43). -/
def execSetAccessMode (l : Link) (tag mode : Byte) (s : State) : Outcome :=
  .next (s.arrive l tag (.setAccessMode mode))

/-- SET_NOTICE_MASK (R38). -/
def execSetNoticeMask (l : Link) (tag flags : Byte) (s : State) : Outcome :=
  .next (s.arrive l tag (.setNoticeMask flags))

/-- CLEAR_NOTICES (R39). -/
def execClearNotices (l : Link) (tag flags : Byte) (s : State) : Outcome :=
  .next (s.arrive l tag (.clearNotices flags))

/-- SET_ROTATION (R122). -/
def execSetRotation (l : Link) (tag mode : Byte) (s : State) : Outcome :=
  .next (s.arrive l tag (.setRotation mode))

/-- SET_BOTTOM (R122). -/
def execSetBottom (l : Link) (tag beam : Byte) (s : State) : Outcome :=
  .next (s.arrive l tag (.setBottom beam))

/-- RETRAIN_BEAM (R118). -/
def execRetrainBeam (l : Link) (tag beam : Byte) (s : State) : Outcome :=
  .next (s.arrive l tag (.retrainBeam beam))

/-- RESET_PROCESSING (R36). -/
def execResetProcessing (l : Link) (tag : Byte) (s : State) : Outcome :=
  .next (s.arrive l tag .resetProcessing)

/-- MAP_SEGMENTS (R71). -/
def execMapSegments (l : Link) (tag beam zone first count : Byte) (s : State) : Outcome :=
  .next (s.arrive l tag (.mapSegments beam zone first count))

/-- UNMAP_SEGMENTS (R74). -/
def execUnmapSegments (l : Link) (tag beam zone first count : Byte) (s : State) : Outcome :=
  .next (s.arrive l tag (.unmapSegments beam zone first count))

/-- SET_WINDOW (R61). -/
def execSetWindow (l : Link) (tag beam zone window : Byte) (s : State) : Outcome :=
  .next (s.arrive l tag (.setWindow beam zone window))

/-- PIN_SEGMENTS (R76). -/
def execPinSegments (l : Link) (tag beam zone first count : Byte) (s : State) : Outcome :=
  .next (s.arrive l tag (.pinSegments beam zone first count))

/-- UNPIN_SEGMENTS (R76). -/
def execUnpinSegments (l : Link) (tag beam zone first count : Byte) (s : State) : Outcome :=
  .next (s.arrive l tag (.unpinSegments beam zone first count))

/-- SET_ANCHORING (R77). -/
def execSetAnchoring (l : Link) (tag beam mode : Byte) (s : State) : Outcome :=
  .next (s.arrive l tag (.setAnchoring beam mode))

/-- CHECKPOINT_BEAM (R155). -/
def execCheckpointBeam (l : Link) (tag beam : Byte) (s : State) : Outcome :=
  .next (s.arrive l tag (.checkpointBeam beam))

/-- RESTORE_BEAM (R157). -/
def execRestoreBeam (l : Link) (tag beam : Byte) (s : State) : Outcome :=
  .next (s.arrive l tag (.restoreBeam beam))

/-- CLEAR_BEAM (R158). -/
def execClearBeam (l : Link) (tag beam : Byte) (s : State) : Outcome :=
  .next (s.arrive l tag (.clearBeam beam))

/-- FILL_SEGMENTS (R160). -/
def execFillSegments (l : Link) (tag beam zone first count : Byte) (value : Coef)
    (s : State) : Outcome :=
  .next (s.arrive l tag (.fillSegments beam zone first count value))

/-- READ_COEFFICIENTS (R182). -/
def execReadCoefficients (l : Link) (tag beam zone pos first count : Byte) (s : State) : Outcome :=
  .next (s.arrive l tag (.readCoefficients beam zone pos first count))

/-- QUERY_BEAM (R194). -/
def execQueryBeam (l : Link) (tag beam clear : Byte) (s : State) : Outcome :=
  .next (s.arrive l tag (.queryBeam beam clear))

/-- QUERY_PATH (R79). -/
def execQueryPath (l : Link) (tag beam zone first : Byte) (s : State) : Outcome :=
  .next (s.arrive l tag (.queryPath beam zone first))

/-- QUERY_POOL (R80). -/
def execQueryPool (l : Link) (tag clear : Byte) (s : State) : Outcome :=
  .next (s.arrive l tag (.queryPool clear))

/-- QUERY_SCHEDULER (R134). -/
def execQueryScheduler (l : Link) (tag clear : Byte) (s : State) : Outcome :=
  .next (s.arrive l tag (.queryScheduler clear))

/-- QUERY_LINK (R44). -/
def execQueryLink (l : Link) (tag clear : Byte) (s : State) : Outcome :=
  .next (s.arrive l tag (.queryLink clear))

/-- QUERY_MEMORY (R180). -/
def execQueryMemory (l : Link) (tag clear : Byte) (s : State) : Outcome :=
  .next (s.arrive l tag (.queryMemory clear))

/-- QUERY_TIMER (R15). -/
def execQueryTimer (l : Link) (tag clear : Byte) (s : State) : Outcome :=
  .next (s.arrive l tag (.queryTimer clear))

/-- SET_RECEIVE (R40): the record's count byte and beam bytes, a length that differs from the count
being MALFORMED. -/
def execSetReceive (l : Link) (tag count : Byte) (beams : List Byte) (s : State) : Outcome :=
  .next (s.submit l tag 4 (count :: beams))

/-- WRITE_COEFFICIENTS (R183): the record's count byte and values, a length that differs from the count
being MALFORMED. -/
def execWriteCoefficients (l : Link) (tag beam zone pos first count : Byte) (values : List Coef)
    (s : State) : Outcome :=
  .next (s.submit l tag 25
    (beam :: zone :: pos :: first :: count :: values.flatMap fun v => leBytes 4 v.toNat))

/-- UNKNOWN_COMMAND (R29): a record whose number is 0 or above 32 is answered UNKNOWN COMMAND. -/
def execUnknownCommand (l : Link) (tag number : Byte) (params : List Byte) (s : State) : Outcome :=
  .next (s.submit l tag number params)

end Sys2Proof.Machine
end

