-- ==== Sys2Proof/Machine/LinkFrames.lean ====
section
/-! DEFINITION. The client links' frames (02): reception and judging of inbound frames, lock, slip
buffers, record assembly and lapse, and the outbound frame. -/

namespace Sys2Proof.Machine

/-! ## Reception (R17, R18) -/

/-- R17: what a valid inbound frame carries. -/
structure InFrame where
  count : Byte
  channels : Nat
  /-- One list of 32 samples a channel. -/
  samples : List (List Sample)
  mark : Bool
  piece : List Byte
  deriving DecidableEq, Repr

/-- R18: a header failure: channel count above 4, piece length above 60, or bit 6 of the message byte
set. -/
def headerFails (channels message : Byte) : Bool :=
  4 < channels.toNat || 60 < (message &&& 63#8).toNat || message.getLsbD 6

/-- R18: the frame that bytes received from a frame start make, when it is valid at the receiver;
none when it is bad (sync, header, short or check). Bytes after its last are ignored. -/
def parseInbound : List Byte → Option InFrame
  | s0 :: s1 :: count :: channels :: message :: reserved :: rest =>
    let c := channels.toNat
    let m := (message &&& 63#8).toNat
    let body := rest.take (64 * c + m)
    if headerFails channels message then none
    else if rest.length < 64 * c + m + 2 then none
    else if s0 != 0xA7#8 || s1 != 0x3C#8 then none
    else if (rest.drop (64 * c + m)).take 2
        != checkBytes (count :: channels :: message :: reserved :: body) then none
    else
      some ⟨count, c, (List.range c).map (channelSamples body), message.getLsbD 7, body.drop (64 * c)⟩
  | _ => none

/-! ## Lapse (R27) -/

/-- R27: a link leaves LOCKED. -/
def LinkState.lapse (k : LinkState) : LinkState :=
  { k with
    mode := .search
    lockRun := 0
    badRun := 0
    lapses := k.lapses.bump
    places := []
    lostRecords := if k.assembly.isSome then k.lostRecords.bump else k.lostRecords
    assembly := none
    slips := []
    fill := 0
    request := none
    freeze := 0
    access := .background }

/-! ## Slip buffers (R25, R26) -/

/-- R25: append one block of samples to each channel; beyond 128 the newest are discarded, counted and
noticed. -/
def LinkState.append (blocks : List (List Sample)) (k : LinkState) : LinkState :=
  let slips := (List.zipWith (· ++ ·) k.slips blocks).map (·.take 128)
  if 128 < k.fill + 32 then
    { k.raise .slip with slips := slips, fill := 128, overruns := k.overruns.bump }
  else { k with slips := slips, fill := k.fill + 32 }

/-- R24, R25: one block of zeros a channel. -/
def LinkState.appendZeros (k : LinkState) : LinkState :=
  k.append (List.replicate k.slips.length (List.replicate 32 0))

/-- R26: the block a slip buffer gives at a boundary, by the fill. -/
def takenBlock (fill : Nat) (xs : List Sample) : List Sample :=
  if 80 < fill then (xs.drop 1).take 32
  else if 48 ≤ fill then xs.take 32
  else if 32 ≤ fill then xs.take 31 ++ [xs.getD 30 0]
  else xs ++ List.replicate (32 - fill) 0

/-- R26: samples that leave a slip buffer at a boundary, by the fill. -/
def takenCount (fill : Nat) : Nat :=
  if 80 < fill then 33 else if 48 ≤ fill then 32 else if 32 ≤ fill then 31 else fill

/-- R26, R47: the playback a link hands to the zone mixer, one block a channel; a link in SEARCH hands
over nothing. -/
def LinkState.handover (k : LinkState) : List (List Sample) :=
  match k.mode with
  | .search => []
  | .locked => k.slips.map (takenBlock k.fill)

/-- R26: a LOCKED link after the boundary's take, counted and noticed; an underrun lapses it. -/
def LinkState.afterTake (k : LinkState) : LinkState :=
  match k.mode with
  | .search => k
  | .locked =>
    let n := takenCount k.fill
    let k' := { k with slips := k.slips.map (·.drop n), fill := k.fill - n }
    if 80 < k.fill then { k'.raise .slip with slipDrops := k.slipDrops.bump }
    else if 48 ≤ k.fill then k'
    else if 32 ≤ k.fill then { k'.raise .slip with repeats := k.repeats.bump }
    else LinkState.lapse { k'.raise .slip with underruns := k.underruns.bump }

/-! ## Record assembly (R20) -/

/-- R20: a well-formed first piece: at least 4 bytes, p at most 261, no longer than 4 + p. -/
def firstPieceTotal (piece : List Byte) : Option Nat :=
  match piece with
  | _ :: _ :: p0 :: p1 :: _ =>
    let p := fromLe [p0, p1]
    if p ≤ maxParams && piece.length ≤ 4 + p then some (4 + p) else none
  | _ => none

/-- R20: the assembly after a piece, before it is tested for a whole record. -/
def LinkState.takePiece (mark : Bool) (piece : List Byte) (k : LinkState) : LinkState :=
  if piece = [] then k
  else
    match mark, k.assembly with
    | false, a =>
      let lost := if a.isSome then 1 else 0
      match firstPieceTotal piece with
      | some total => { k.lose lost with assembly := some ⟨piece, total⟩ }
      | none => { k.lose (lost + 1) with assembly := none }
    | true, none => k.lose 1
    | true, some a =>
      if piece.length ≤ a.total - a.bytes.length then
        { k with assembly := some { a with bytes := a.bytes ++ piece } }
      else { k.lose 1 with assembly := none }

/-- R20: the record an assembly holds whole. -/
def LinkState.wholeRecord (k : LinkState) : Option (List Byte) :=
  match k.assembly with
  | some a => if a.total ≤ a.bytes.length then some a.bytes else none
  | none => none

/-- R20, R28: hand a whole record to the command places and empty the assembly. -/
def State.takeRecord (l : Link) (s : State) : State :=
  match s.links[l].wholeRecord with
  | some (tag :: number :: _ :: _ :: params) =>
    (s.modLink l fun k => { k with assembly := none }).arrive l tag (parseCommand number params)
  | _ => s

/-! ## Judging (R21, R23, R24) -/

/-- R21: the lock run with a valid frame counted into it. -/
def LinkState.nextRun (f : InFrame) (k : LinkState) : Nat :=
  if 0 < k.lockRun && f.count == k.runCount + 1 && f.channels == k.runChannels then k.lockRun + 1
  else 1

/-- R21: a link enters LOCKED at a frame. -/
def LinkState.lock (f : InFrame) (k : LinkState) : LinkState :=
  { k with
    mode := .locked
    channels := f.channels
    slips := f.samples.map (List.replicate 32 0 ++ ·)
    fill := 64
    expected := f.count + 1
    badRun := 0
    assembly := none
    lockRun := 0
    runCount := f.count
    runChannels := f.channels }

/-- R21, R22: a frame arriving in SEARCH. -/
def LinkState.searchFrame (lockCount : Nat) (f : Option InFrame) (k : LinkState) : LinkState :=
  match f with
  | none => { k with badFrames := k.badFrames.bump, lockRun := 0 }
  | some f =>
    let run := k.nextRun f
    if lockCount ≤ run then k.lock f
    else { k with lockRun := run, runCount := f.count, runChannels := f.channels }

/-- R23: the two conditions of a good frame. -/
def LinkState.isGood (k : LinkState) (f : InFrame) : Bool :=
  f.count == k.expected && f.channels == k.channels

/-- R24: a bad frame in LOCKED; `expected` is the count expected after it. -/
def LinkState.badFrame (expected : Byte) (k : LinkState) : LinkState :=
  let k :=
    { k with
      badFrames := k.badFrames.bump
      lostRecords := if k.assembly.isSome then k.lostRecords.bump else k.lostRecords
      assembly := none
      expected := expected }
  if k.badRun + 1 < 4 then LinkState.appendZeros { k with badRun := k.badRun + 1 }
  else LinkState.lapse { k with badRun := 0 }

/-- R23: a good frame, its message piece taken by the assembly. R23 gives no order of its four effects.
The run, the expected count and the slip buffers are brought up to date before a command that the piece
completes executes, so a QUERY LINK shows them as the frame leaves them (DESIGN CHOICE, log entry
27). -/
def LinkState.goodFrame (f : InFrame) (k : LinkState) : LinkState :=
  (LinkState.append f.samples { k with badRun := 0, expected := f.count + 1 }).takePiece f.mark f.piece

/-- R18 to R24: a link after a frame's arrival, before a whole record is taken. -/
def LinkState.frame (lockCount : Nat) (f : Option InFrame) (k : LinkState) : LinkState :=
  match k.mode, f with
  | .search, f => k.searchFrame lockCount f
  | .locked, none => k.badFrame (k.expected + 1)
  | .locked, some f => if k.isGood f then k.goodFrame f else k.badFrame (f.count + 1)

/-- One inbound frame on a link (95, INBOUND_FRAME). -/
def State.inbound (l : Link) (bytes : List Byte) (s : State) : State :=
  (s.modLink l (LinkState.frame s.linkLock (parseInbound bytes))).takeRecord l

/-- R21: the frame locks the link. -/
def LinkState.locksOn (lockCount : Nat) (f : Option InFrame) (k : LinkState) : Bool :=
  match k.mode, f with
  | .search, some f => lockCount ≤ k.nextRun f
  | .search, none => false
  | .locked, _ => false

/-- R24, R27: the frame lapses the link: the fourth consecutive bad frame. -/
def LinkState.lapsesOn (f : Option InFrame) (k : LinkState) : Bool :=
  match k.mode, f with
  | .search, _ => false
  | .locked, none => 4 ≤ k.badRun + 1
  | .locked, some f => !k.isGood f && 4 ≤ k.badRun + 1

/-- R26, R27: the boundary's take lapses the link: an underrun. -/
def LinkState.lapsesAtTake (k : LinkState) : Bool := k.mode == .locked && k.fill < 32

/-! ## Outbound frames (R30, R41) -/

/-- R30: the next piece of the oldest place in ANSWER, its continuation mark, and the places once it
is sent; a place is freed with its last piece. -/
def sendPiece : List Place → Option (List Byte × Bool) × List Place
  | [] => (none, [])
  | p :: ps =>
    match p.stage with
    | .answer record sent =>
      let piece := (record.drop sent).take 60
      if sent + 60 < record.length then
        (some (piece, 0 < sent), { p with stage := .answer record (sent + 60) } :: ps)
      else (some (piece, 0 < sent), ps)
    | .queued _ =>
      let r := sendPiece ps
      (r.1, p :: r.2)
    | .executing _ =>
      let r := sendPiece ps
      (r.1, p :: r.2)

/-- R30, R41: the piece a link sends at a boundary: none in SEARCH. -/
def LinkState.nextPiece (k : LinkState) : Option (List Byte × Bool) × List Place :=
  match k.mode with
  | .search => (none, k.places)
  | .locked => sendPiece k.places

/-- R17: the message byte of a piece. -/
def messageByte (length : Nat) (mark : Bool) : Byte :=
  BitVec.ofNat 8 (length % 64) ||| (if mark then 0x80#8 else 0#8)

/-- R17, R19: a frame of the link layout around its covered bytes. -/
def linkFrame (covered : List Byte) : List Byte :=
  [0xA7#8, 0x3C#8] ++ covered ++ checkBytes covered

/-- R41: the outbound frame of a link for block number j; the continuation mark of a frame without a
piece is a free value. -/
def outboundFrame (block : BlockNo) (outputs : List (List Sample)) (idle : Bool) (k : LinkState) :
    List Byte :=
  let p := match k.nextPiece.1 with
    | some q => q
    | none => ([], idle)
  linkFrame
    ([block.extractLsb' 0 8, BitVec.ofNat 8 k.receive.length, messageByte p.1.length p.2,
      k.noticeByte] ++ outputs.flatMap samplesToBytes ++ p.1)

/-- R41, R191: one link sends its outbound frame at a boundary. -/
def State.sendFrame (s : State) (l : Link) : State :=
  s.modLink l fun k =>
    { k with
      outFrame := outboundFrame s.timer.block (k.receive.map fun b => s.beams[b].out.samples)
        (Config.idleMark s.draws l) k
      places := k.nextPiece.2 }

/-- R41: every link sends one frame. -/
def State.sendFrames (s : State) : State := ((List.finRange 3).foldl State.sendFrame s).draw

end Sys2Proof.Machine
end

