-- ==== Sys2Proof/Machine/Mixer.lean ====
section
/-! DEFINITION. The zone mixer, the speaker port and the reference history at a boundary (03, 01
R16). -/

namespace Sys2Proof.Machine

/-- R48: the exact mix sum of a zone at sample n over the handed-over channels of every link. Column
4·l + c is channel c of link l. -/
def mixSum (gains : Vector (BitVec 16) 12) (playback : Vector (List (List Sample)) 3) (n : Nat) : Int :=
  ((List.finRange 3).map fun l =>
    ((playback[l].zipIdx).map fun q =>
      (gains.toList.getD (4 * l.val + q.2) 0).toInt * (q.1.getD n 0).toInt).sum).sum

/-- R48: the unlimited sample. -/
def unlimitedSample (gains : Vector (BitVec 16) 12) (playback : Vector (List (List Sample)) 3) (n : Nat) :
    Sample :=
  sat16 (roundDiv (mixSum gains playback n) 16384)

/-- R49: the feed sample: 0 in a muted zone, else the unlimited sample clamped to the zone's limit. -/
def feedSample (k : ZoneState) (x : Sample) : Sample :=
  if k.mute then 0 else BitVec.ofInt 16 (clampInt (-k.limit) k.limit x.toInt)

/-- R47 to R49: a zone's feed of a block, sample 0 first. -/
def ZoneState.feed (playback : Vector (List (List Sample)) 3) (k : ZoneState) : List Sample :=
  (List.range 32).map fun n => feedSample k (unlimitedSample k.gains playback n)

/-- R54: the window lengths, 256·2^i. -/
def windowLength (i : Nat) : Nat := 256 * 2 ^ i

/-- R54: a window energy after a block: it gains the squares of the 32 new samples and loses those of
the 32 that pass beyond its window. -/
def nextEnergy (ring feed : List Sample) (i e : Nat) : Nat :=
  e + energy feed - energy ((ring.drop (windowLength i - 32)).take 32)

/-- R52, R54 to R56: a zone's history with a block's feed appended. The ring is newest first. -/
def ZoneState.appendFeed (feed : List Sample) (k : ZoneState) : ZoneState :=
  { k with
    ring := (feed.reverse ++ k.ring).take Config.ringLength
    energies := ⟨⟨(k.energies.toList.zipIdx).map fun q => nextEnergy k.ring feed q.2 q.1⟩, by simp⟩
    ex := energy feed
    px := smooth k.px (energy feed) }

/-- R16: the speaker frame of a block. -/
def speakerFrame (block : BlockNo) (feeds : List (List Sample)) : List Byte :=
  let covered := block.extractLsb' 0 8 :: feeds.flatMap samplesToBytes
  [0x5E#8, 0xD2#8] ++ covered ++ checkBytes covered

/-- R26, R47, R51: take the links' blocks, form the six feeds, send the speaker frame and append the
history. -/
def State.mixBlock (s : State) : State :=
  let playback := vmap LinkState.handover s.links
  let s := s.mapLinks LinkState.afterTake
  let feeds := vmap (ZoneState.feed playback) s.zones
  let s := s.setSpeaker (speakerFrame s.timer.block feeds.toList)
  s.mapZones fun k => k.appendFeed (k.feed playback)

end Sys2Proof.Machine
end

