-- ==== Sys2Proof/Machine/Updater.lean ====
section
/-! DEFINITION. The coefficient updater (08): the normalised update of one listed segment and the
grant of its write. -/

namespace Sys2Proof.Machine

/-- R138: the block gradient of tap k of segment s: the error correlated with the reference. -/
def gradient (e : List Sample) (ring : List Sample) (s k : Nat) : Int :=
  ((List.range 32).map fun n =>
    (e.getD n 0).toInt * ((laggedRing ring n s).getD k 0).toInt).sum

/-- R139: the step of a tap. -/
def stepOf (mu : Nat) (g : Int) (d : Nat) : Int := roundDiv (mu * g * 2 ^ 17) d

/-- R140: the new coefficient. -/
def newCoef (base : Coef) (step : Int) : Coef := sat32 (base.toInt + step)

/-- R138 to R140: the 256 new coefficients of a segment. -/
def newCoefs (mu d : Nat) (e ring : List Sample) (s : Nat) (base : List Coef) : List Coef :=
  (List.range 256).map fun k => newCoef (base.getD k 0) (stepOf mu (gradient e ring s k) d)

/-- R137: the update of a listed segment, from the values R137's table names. -/
def State.updateOf (s : State) (a : SegAddr) : List Coef :=
  let k := s.beams[a.beam]
  let base := match s.work.bases.find? fun r => r.addr == a with
    | some r => r.coefs
    | none => []
  newCoefs k.set.mu k.est.normaliser k.est.e s.work.rings[a.zone] a.pos.val base

/-- R127: after the write of an entry, move its lane to the next eligible segment, or complete the
pass when none lies after. -/
def State.advanceLane (d : Demand) (s : State) : State :=
  let s := s.modSched fun k => { k with granted := k.granted + 1 }
  match s.sched.lanes[d.lane] with
  | none => s
  | some p =>
    match s.remaining p.beam (d.addr.point + 1) with
    | e :: _ =>
      s.setLane d.lane (some { p with updated := p.updated + 1, point := e.addr.point })
    | [] =>
      (s.setLane d.lane (some { p with updated := p.updated + 1 })).completePass d.lane

/-- R137, R142: grant the first entry of the demand list. -/
def State.adaptationWrite (s : State) : State :=
  match s.sched.demand with
  | [] => s
  | d :: rest =>
    let s := s.modSched fun k => { k with demand := rest }
    match s.seg? d.addr with
    | none => s
    | some e =>
      let ds := packCoefs (s.updateOf d.addr)
      let s := s.charge fun a => { a with adaptation := a.adaptation + 1 }
      (s.fullWrite e.page ds).advanceLane d

end Sys2Proof.Machine
end

