-- ==== Sys2Proof/Machine/Boundary.lean ====
section
/-! DEFINITION. The block boundary (01 R3; 95, BLOCK_BOUNDARY): what ends with the old block, what
begins with the new one, and the order of the work within (log entry 4). -/

namespace Sys2Proof.Machine

/-- R167: the account of the block that ends goes to the latest-block record and a fresh account opens.
Before the first boundary there is none to copy (R181). -/
def Port.closeAccount (block : BlockNo) (k : Port) : Port :=
  match k.account with
  | none => { k with account := some {} }
  | some a => { k with account := some {}, latestBlock := block, latest := a }

/-- The end of the current block: its reads are all granted (R168, log entry 5), its budget ends
(R167), its ungranted demand entries are dropped (R127), and the client-write holds of writes granted
in it end (R184). -/
def State.closeBlock (s : State) : State :=
  let s := s.finishReads
  ((s.modPort (Port.closeAccount s.timer.block)).modSched fun k => { k with demand := [] }).setWriteHold
    0

/-- Sixteen beams of silence (R12). -/
def silence : Vector (List Sample) 16 := Vector.replicate 16 (List.replicate 32 0)

/-- R3, R12: the new block's number, time and status, and the capture port's samples: those of the
frame for a GOOD block, silence for any other. -/
def State.beginBlock (status : CaptureStatus) (t : Time) (samples : Vector (List Sample) 16)
    (s : State) : State :=
  (s.modTimer fun k => { k with block := k.block + 1, lastBoundary := t, status := status }).setCapture
    (if status = .good then samples else silence)

/-- The work of a boundary up to the estimator's take: slip take, feeds, speaker frame and history
(R26, R47 to R56, R16), lane grants (R123), applied gains (R189), outbound frames (R41), then the
estimator's inputs (R82, R83). -/
def State.openBlock (s : State) : State :=
  s.mixBlock.grantLanes.copyGains.sendFrames.takeInputs

/-- One whole block boundary at time t. -/
def State.boundary (status : CaptureStatus) (t : Time) (samples : Vector (List Sample) 16)
    (s : State) : State :=
  ((s.closeBlock.beginBlock status t samples).openBlock).completeAtBoundary

end Sys2Proof.Machine
end

