-- ==== Sys2Proof/Machine/TimerEvents.lean ====
section
/-! DEFINITION. The frame timer (01 R2 to R11): judging capture frames, the watch, the free-running
period, and power-on reset. -/

namespace Sys2Proof.Machine

/-! ## Capture frames -/

/-- R2: the samples of a valid capture frame; none when the bytes received from its frame start make a
bad frame (short, sync, check). Bytes after the 1028th are ignored. -/
def parseCapture (bytes : List Byte) : Option (Vector (List Sample) 16) :=
  match bytes with
  | s0 :: s1 :: rest =>
    let body := rest.take 1024
    if rest.length < 1026 then none
    else if s0 != 0x5E#8 || s1 != 0xC1#8 then none
    else if (rest.drop 1024).take 2 != checkBytes body then none
    else some (vmap (fun b : Beam => channelSamples body b.val) ⟨⟨List.finRange 16⟩, by simp⟩)
  | _ => none

/-! ## What the timer decides -/

/-- What an event makes of the timer: its new state (block, status and last boundary as before), the
status of the block that begins if it makes a boundary, and whether the timer state changes, which
raises CAPTURE STATE (R14). -/
structure Verdict where
  timer : Timer
  boundary : Option CaptureStatus
  changed : Bool
  deriving DecidableEq, Repr

/-- R5, R6, R7: an entry to HOLDOVER. -/
def Timer.enterHoldover (k : Timer) : Timer :=
  { k with mode := .holdover, goodRun := 0, badRun := 0, holdoverEntries := k.holdoverEntries.bump }

/-- R10: an entry to RUN, the watch mark at the frame's arrival. -/
def Timer.enterRun (t : Time) (k : Timer) : Timer :=
  { k with mode := .run t, goodRun := 0, badRun := 0, relocks := k.relocks.bump }

/-- R4 to R6, R10: later than the guard after the last boundary. -/
def Timer.pastGuard (t : Time) (k : Timer) : Bool := k.lastBoundary + Config.guardTime < t

/-- R4, R5, R6: a frame in RUN. -/
def Timer.frameInRun (valid : Bool) (t : Time) (k : Timer) : Verdict :=
  if k.pastGuard t then
    if valid then ⟨{ k with mode := .run t, badRun := 0 }, some .good, false⟩
    else
      let k := { k with badFrames := k.badFrames.bump }
      if k.badRun + 1 < 4 then
        ⟨{ k with mode := .run t, badRun := k.badRun + 1 }, some .badFrame, false⟩
      else ⟨k.enterHoldover, some .holdover, true⟩
  else
    let k := { k with badFrames := k.badFrames.bump, earlyFrames := k.earlyFrames.bump }
    if k.badRun + 1 < 4 then ⟨{ k with badRun := k.badRun + 1 }, none, false⟩
    else ⟨k.enterHoldover, none, true⟩

/-- R9, R10: a frame in HOLDOVER. -/
def Timer.frameInHoldover (valid : Bool) (t : Time) (k : Timer) : Verdict :=
  if valid then
    if k.lockCount ≤ k.goodRun + 1 then
      ⟨k.enterRun t, if k.pastGuard t then some .good else none, true⟩
    else ⟨{ k with goodRun := k.goodRun + 1 }, none, false⟩
  else ⟨{ k with goodRun := 0, badFrames := k.badFrames.bump }, none, false⟩

/-- R4 to R10: a capture frame. -/
def Timer.onFrame (valid : Bool) (t : Time) (k : Timer) : Verdict :=
  match k.mode with
  | .run _ => k.frameInRun valid t
  | .holdover => k.frameInHoldover valid t

/-- R7, R8: when the timer's own next event comes: the close of the watch window in RUN, the end of
the free-running period in HOLDOVER. -/
def Timer.dueTime (k : Timer) : Time :=
  match k.mode with
  | .run mark => mark + Config.watchWindow
  | .holdover => k.lastBoundary + Config.freeRunningPeriod

/-- R7, R8: the timer's own next event: the watch expiry in RUN, the free-running boundary in
HOLDOVER. -/
def Timer.onDue (k : Timer) : Verdict :=
  match k.mode with
  | .run _ =>
    ⟨Timer.enterHoldover { k with watchExpiries := k.watchExpiries.bump }, some .holdover, true⟩
  | .holdover => ⟨k, some .holdover, false⟩

/-! ## Carrying it out -/

/-- The timer's part of an event, with CAPTURE STATE (R14, log entry 21). -/
def State.judged (v : Verdict) (s : State) : State :=
  let s := s.modTimer fun _ => v.timer
  if v.changed then s.raiseAll .captureState else s

/-- An event of the timer at time t. -/
def State.timerEvent (v : Verdict) (t : Time) (samples : Vector (List Sample) 16) (s : State) : State :=
  match v.boundary with
  | none => s.judged v
  | some status => (s.judged v).boundary status t samples

/-- The timer's own next event (R7, R8), at its time. -/
def State.dueEvent (s : State) : State := s.timerEvent s.timer.onDue s.timer.dueTime silence

/-- The timer's own events that come before time t (log entry 2). -/
def State.catchUpFuel (t : Time) : Nat → State → State
  | 0, s => s
  | n + 1, s => if s.timer.dueTime < t then State.catchUpFuel t n s.dueEvent else s

/-- Enough fuel: each event moves the last boundary on by a free-running period or more. -/
def Timer.catchUpCount (t : Time) (k : Timer) : Nat :=
  (t - k.lastBoundary) / Config.freeRunningPeriod + 2

/-- Every event of the timer's own that comes before time t. -/
def State.catchUp (t : Time) (s : State) : State := State.catchUpFuel t (s.timer.catchUpCount t) s

/-- What the timer decides of a frame that arrives at time t, with nothing overdue. -/
def State.frameVerdict (bytes : List Byte) (t : Time) (s : State) : Verdict :=
  s.timer.onFrame (parseCapture bytes).isSome t

/-- A capture frame at time t with nothing overdue. -/
def State.takeCapture (bytes : List Byte) (t : Time) (s : State) : State :=
  s.timerEvent (s.frameVerdict bytes t) t ((parseCapture bytes).getD silence)

/-- R2 to R10: a capture frame arriving at time t, after whatever came due before it. -/
def State.frameArrives (bytes : List Byte) (t : Time) (s : State) : State :=
  (s.catchUp t).takeCapture bytes t

/-- R7: the watch expiry; nothing in HOLDOVER (log entry 1). -/
def State.watchExpiry (s : State) : State :=
  match s.timer.mode with
  | .run _ => s.dueEvent
  | .holdover => s

/-- R8: the free-running boundary; nothing in RUN (log entry 1). -/
def State.freeRunning (s : State) : State :=
  match s.timer.mode with
  | .run _ => s
  | .holdover => s.dueEvent

/-- R3 and every chapter's values after reset: the part after a power-on reset that ends at time t.
The waiting commands are not the part's and stay (log entry 24). -/
def State.powerOn (t : Time) (s : State) : State :=
  (State.reset.modTimer fun k => { k with lastBoundary := t }).setPending s.pending

end Sys2Proof.Machine
end

