-- ==== Sys2Proof/Machine/Events.lean ====
section
/-! DEFINITION. The table's rows that are events within other steps (95_what_each_step_holds, "also
within"): the step that carries such an event, the moments of that step at which the event can happen,
and whether it does (log entry 1). -/

namespace Sys2Proof.Machine

/-- The step a carrier names. -/
def State.carry (c : Carrier) (s : State) : State :=
  match c with
  | .segmentRead => s.segmentRead
  | .captureFrame bytes t => s.frameArrives bytes t
  | .watchExpiry => s.watchExpiry
  | .freeRunning => s.freeRunning
  | .inboundFrame l bytes => s.inbound l bytes

/-- A moment of a step, with the state in which it begins. -/
inductive Moment where
  /-- The links' take of playback at a boundary (R26). -/
  | take (s : State)
  /-- The evaluation of a beam (R99). -/
  | evaluation (b : Beam) (s : State)
  /-- The formation of a demand list (R126). -/
  | formation (s : State)

/-- The moments of a beam's completion. -/
def State.completeMoments (b : Beam) (s : State) : List Moment :=
  if s.timer.status = .good then [.evaluation b (s.finishEstimate b)] else []

/-- The formation, if no read is asked for any more. -/
def State.formMoments (s : State) : List Moment := if s.work.reads = [] then [.formation s] else []

/-- The moments of one segment read grant. -/
def State.readMoments (s : State) : List Moment :=
  match s.work.reads with
  | [] => []
  | a :: _ =>
    (if s.readHead.awaitsRead a.beam then [] else s.readHead.completeMoments a.beam)
      ++ (s.readHead.completeIfLast a.beam).formMoments

/-- The moments of the reads that end a block. -/
def State.finishMoments : Nat → State → List Moment
  | 0, _ => []
  | n + 1, s => s.readMoments ++ State.finishMoments n s.segmentRead

/-- The moments of several completions. -/
def State.completionMoments : List Beam → State → List Moment
  | [], s => s.formMoments
  | b :: bs, s => s.completeMoments b ++ State.completionMoments bs (s.completeBeam b)

/-- The moments of a boundary. -/
def State.boundaryMoments (status : CaptureStatus) (t : Time) (samples : Vector (List Sample) 16)
    (s : State) : List Moment :=
  let begun := s.closeBlock.beginBlock status t samples
  State.finishMoments s.work.reads.length s
    ++ .take begun :: State.completionMoments begun.openBlock.readFree begun.openBlock

/-- The moments of an event of the timer. -/
def State.timerMoments (v : Verdict) (t : Time) (samples : Vector (List Sample) 16) (s : State) :
    List Moment :=
  match v.boundary with
  | none => []
  | some status => (s.judged v).boundaryMoments status t samples

/-- The moments of the timer's own next event. -/
def State.dueMoments (s : State) : List Moment :=
  s.timerMoments s.timer.onDue s.timer.dueTime silence

/-- The moments of the events that come before time t. -/
def State.catchUpMoments (t : Time) : Nat → State → List Moment
  | 0, _ => []
  | n + 1, s =>
    if s.timer.dueTime < t then s.dueMoments ++ State.catchUpMoments t n s.dueEvent else []

/-- The moments of a capture frame. -/
def State.frameMoments (bytes : List Byte) (t : Time) (s : State) : List Moment :=
  let s' := s.catchUp t
  State.catchUpMoments t (s.timer.catchUpCount t) s
    ++ s'.timerMoments (s'.frameVerdict bytes t) t ((parseCapture bytes).getD silence)

/-- The moments of a carrier's step. -/
def State.moments (s : State) (c : Carrier) : List Moment :=
  match c, s.timer.mode with
  | .segmentRead, _ => s.readMoments
  | .captureFrame bytes t, _ => s.frameMoments bytes t
  | .watchExpiry, .run _ => s.dueMoments
  | .watchExpiry, .holdover => []
  | .freeRunning, .holdover => s.dueMoments
  | .freeRunning, .run _ => []
  | .inboundFrame _ _, _ => []

/-! ## Which event happens at a moment -/

/-- R103: the evaluation changes beam b's talk state. -/
def Moment.changesTalk (b : Beam) : Moment → Bool
  | .evaluation c s => c == b && (s.stageTalk c).beams[c].talk.state != s.beams[c].talk.state
  | .take _ => false
  | .formation _ => false

/-- R106, R107: the evaluation declares beam b diverged. -/
def Moment.declares (b : Beam) : Moment → Bool
  | .evaluation c s => c == b && (s.stageTalk c).divergesNow c
  | .take _ => false
  | .formation _ => false

/-- R110: the evaluation queues a CAPTURE of beam b. -/
def Moment.triggers (b : Beam) : Moment → Bool
  | .evaluation c s => c == b && ((s.stageTalk c).stageDivergence c).triggersNow s.beams[c].talk.copyQueued c
  | .take _ => false
  | .formation _ => false

/-- R131: the formation abandons the pass of lane n at the hold limit. -/
def Moment.abandonsHeld (n : LaneNo) : Moment → Bool
  | .formation s => match s.sched.lanes[n] with
    | some p => s.reachesHoldLimit p
    | none => false
  | .take _ => false
  | .evaluation _ _ => false

/-- R26, R27: the take lapses link l. -/
def Moment.lapses (l : Link) : Moment → Bool
  | .take s => s.links[l].lapsesAtTake
  | .evaluation _ _ => false
  | .formation _ => false

/-! ## The events -/

/-- An event row's step: the carrier's, when the event happens in it; otherwise nothing (log entry
1). -/
def State.eventStep (happens : Bool) (c : Carrier) (s : State) : State :=
  if happens then s.carry c else s

/-- R103: the carrier's step changes the talk state of beam b. -/
def State.talkChangesIn (s : State) (b : Beam) (c : Carrier) : Bool :=
  (s.moments c).any (Moment.changesTalk b)

/-- R107: the carrier's step declares beam b diverged. -/
def State.divergesIn (s : State) (b : Beam) (c : Carrier) : Bool :=
  (s.moments c).any (Moment.declares b)

/-- R110: the carrier's step queues a triggered CAPTURE of beam b. -/
def State.triggersIn (s : State) (b : Beam) (c : Carrier) : Bool :=
  (s.moments c).any (Moment.triggers b)

/-- R131: the carrier's step abandons the pass of lane n at the hold limit. -/
def State.abandonsIn (s : State) (n : LaneNo) (c : Carrier) : Bool :=
  (s.moments c).any (Moment.abandonsHeld n)

/-- R24, R26, R27: the carrier's step lapses link l, by a fourth bad frame or an underrun. -/
def State.lapsesIn (s : State) (l : Link) (c : Carrier) : Bool :=
  match c with
  | .inboundFrame m bytes => m == l && s.links[m].lapsesOn (parseInbound bytes)
  | .segmentRead => false
  | .captureFrame _ _ => (s.moments c).any (Moment.lapses l)
  | .watchExpiry => (s.moments c).any (Moment.lapses l)
  | .freeRunning => (s.moments c).any (Moment.lapses l)

/-- R21: the frame brings the lock run of link l to the link lock count. -/
def State.locksIn (s : State) (l : Link) (bytes : List Byte) : Bool :=
  s.links[l].locksOn s.linkLock (parseInbound bytes)

/-- R5, R6: the frame brings the bad-frame run to 4. -/
def State.holdoverIn (s : State) (bytes : List Byte) (t : Time) : Bool :=
  let s := s.catchUp t
  match s.timer.mode with
  | .run _ => (s.frameVerdict bytes t).changed
  | .holdover => false

/-- R10: the frame brings the good-frame run to the capture lock count. -/
def State.relocksIn (s : State) (bytes : List Byte) (t : Time) : Bool :=
  let s := s.catchUp t
  match s.timer.mode with
  | .run _ => false
  | .holdover => (s.frameVerdict bytes t).changed

end Sys2Proof.Machine
end

