-- ==== Sys2Proof/Machine/EventRows.lean ====
section
/-! DEFINITION. The rows of reset, the frame timer and the links' frames, and the rows that are events
within other steps (01, 02 R18 to R27, 06, 07 R131). -/

namespace Sys2Proof.Machine

/-- POWER_ON_RESET (R3): a power-on reset that ends at a time. -/
def execPowerOnReset (time : Time) (s : State) : Outcome := .next (s.powerOn time)

/-- CAPTURE_FRAME (R2). -/
def execCaptureFrame (bytes : List Byte) (time : Time) (s : State) : Outcome :=
  .next (s.frameArrives bytes time)

/-- WATCH_EXPIRY (R7). -/
def execWatchExpiry (s : State) : Outcome := .next s.watchExpiry

/-- FREE_RUNNING_BOUNDARY (R8). -/
def execFreeRunningBoundary (s : State) : Outcome := .next s.freeRunning

/-- BAD_RUN_HOLDOVER (R5, R6): the capture frame that brings the bad-frame run to 4. -/
def execBadRunHoldover (bytes : List Byte) (time : Time) (s : State) : Outcome :=
  .next (s.eventStep (s.holdoverIn bytes time) (.captureFrame bytes time))

/-- RELOCK (R10): the capture frame that brings the good-frame run to the lock count. -/
def execRelock (bytes : List Byte) (time : Time) (s : State) : Outcome :=
  .next (s.eventStep (s.relocksIn bytes time) (.captureFrame bytes time))

/-- INBOUND_FRAME (R18). -/
def execInboundFrame (l : Link) (bytes : List Byte) (s : State) : Outcome := .next (s.inbound l bytes)

/-- LINK_LOCK (R21): the inbound frame that locks a link. -/
def execLinkLock (l : Link) (bytes : List Byte) (s : State) : Outcome :=
  .next (s.eventStep (s.locksIn l bytes) (.inboundFrame l bytes))

/-- LINK_LAPSE (R27): the inbound frame or the boundary within which a link lapses. -/
def execLinkLapse (l : Link) (within : Carrier) (s : State) : Outcome :=
  .next (s.eventStep (s.lapsesIn l within) within)

/-- TALK_STATE_CHANGE (R103): the step whose evaluation of the beam changes its talk state. -/
def execTalkStateChange (b : Beam) (within : Carrier) (s : State) : Outcome :=
  .next (s.eventStep (s.talkChangesIn b within) within)

/-- DIVERGENCE_DECLARED (R107): the step whose evaluation of the beam declares it diverged. -/
def execDivergenceDeclared (b : Beam) (within : Carrier) (s : State) : Outcome :=
  .next (s.eventStep (s.divergesIn b within) within)

/-- CAPTURE_TRIGGER (R110): the step whose evaluation of the beam queues a CAPTURE. -/
def execCaptureTrigger (b : Beam) (within : Carrier) (s : State) : Outcome :=
  .next (s.eventStep (s.triggersIn b within) within)

/-- HOLD_LIMIT_ABANDON (R131): the step whose demand list formation abandons the lane's pass. -/
def execHoldLimitAbandon (n : LaneNo) (within : Carrier) (s : State) : Outcome :=
  .next (s.eventStep (s.abandonsIn n within) within)

end Sys2Proof.Machine
end

