-- ==== Sys2Proof/Machine/StoreAccess.lean ====
section
/-! DEFINITION. The store access unit (11): the grant of a read and of a write. -/

namespace Sys2Proof.Machine

/-- R182, R176: the covered words of a range of coefficients. -/
def coveredWords (first count : Nat) : List Nat :=
  (List.range ((first + count - 1) / 2 + 1)).drop (first / 2)

/-- R176: the boundary words of a range: those of which only one half lies in it. -/
def boundaryWords (first count : Nat) : List Nat :=
  (coveredWords first count).filter fun i =>
    (first ≤ 2 * i && 2 * i < first + count) != (first ≤ 2 * i + 1 && 2 * i + 1 < first + count)

/-- R182, R185: the status and result of a store command whose read met `bad` uncorrectable words. -/
def storeResponse (values : List Byte) (bad : Nat) : Response :=
  if bad = 0 then ⟨.done, values⟩ else ⟨.storeFault, values ++ byte1 bad⟩

/-- R182: the requested coefficients among the words read, four bytes each. -/
def readValues (first count : Nat) (ws : List (Nat × WordRead)) : List Byte :=
  (((unpackWords (ws.map fun w => w.2.value)).drop (first % 2)).take count).flatMap fun v =>
    leBytes 4 v.toNat

/-- R176: one half of a covered word: the client's value inside the range, else what the word held. -/
def storeHalf (values : List Coef) (first k : Nat) (old : Coef) : Coef :=
  if first ≤ k && k < first + values.length then values.getD (k - first) 0 else old

/-- R176: a covered word as a store write leaves it. -/
def storeWord (values : List Coef) (first i : Nat) (old : DataWord) : DataWord :=
  packWord (storeHalf values first (2 * i) (lowHalf old))
    (storeHalf values first (2 * i + 1) (highHalf old))

/-- R184: a link's request leaves the queue. -/
def State.endRequest (l : Link) (s : State) : State := s.modLink l fun k => { k with request := none }

/-- R169: a grant to a store request counts a store transfer, and that of a BACKGROUND link sets the
engine count to 0. -/
def State.chargeStore (l : Link) (s : State) : State :=
  let s := s.charge fun a => { a with store := a.store + 1 }
  match s.links[l].access with
  | .background => s.modPort fun k => { k with engineCount := 0 }
  | .priority => s

/-- R184, R29: the request leaves the queue, its response is formed, and the link's next command is
taken. -/
def State.finishStore (l : Link) (r : Response) (s : State) : State :=
  ((s.endRequest l).answer l r).drain l

/-- R182: the grant of a read request, whose entry is e. -/
def State.storeRead (l : Link) (r : StoreRequest) (e : Segment) (s : State) : State :=
  let ws := s.readWords e.page (coveredWords r.first r.count)
  ((s.chargeStore l).noteWords .store true e.page ws).finishStore l
    (storeResponse (readValues r.first r.count ws) (badWords ws))

/-- R176, R185: the words a store write puts into its page. -/
def State.storeWords (s : State) (r : StoreRequest) (values : List Coef) (p : Page) : List DataWord :=
  (s.readWords p (coveredWords r.first r.count)).map fun w => storeWord values r.first w.1 w.2.value

/-- R175, R176: write the covered words of a page: a partial write. -/
def State.writeCovered (r : StoreRequest) (values : List Coef) (p : Page) (s : State) : State :=
  (s.setMem (writeWords s.mem p (r.first / 2) (s.storeWords r values p))).dropRepairs p

/-- R184: the beam's hold runs to the boundary that ends this block. -/
def State.holdWrite (b : Beam) (s : State) : State :=
  s.setWriteHold (s.writeHold ||| BitVec.twoPow 16 b.val)

/-- R185, R176: the grant of a write request, whose entry is e. -/
def State.storeWrite (l : Link) (r : StoreRequest) (values : List Coef) (e : Segment) (s : State) :
    State :=
  let ws := s.readWords e.page (boundaryWords r.first r.count)
  let s := (s.chargeStore l).noteWords .store false e.page ws
  ((s.writeCovered r values e.page).holdWrite r.addr.beam).finishStore l
    (storeResponse [] (badWords ws))

end Sys2Proof.Machine
end

