-- ==== Sys2Proof/Machine/Grants.lean ====
section
/-! DEFINITION. The memory port's grants (10 R167 to R171, R177, R178): which transfer is next, and
the grants of the port's users. -/

namespace Sys2Proof.Machine

/-- R169: what a grant goes to. -/
inductive Grant where
  | segmentRead
  | store (link : Link)
  | copyUnit
  | updater
  | repair
  | scrub (page : Page)
  deriving DecidableEq, Repr

/-- R169: the first pending store request, in link order, of the links in an access mode. -/
def State.storePending (s : State) (m : Access) : Option Link :=
  (List.finRange 3).find? fun l => s.links[l].access == m && s.links[l].request.isSome

/-- R170, R167: the copy unit has demand: its head job has work left, and the budget has room for the
job's transfers. -/
def State.copyDemand (s : State) (used : Nat) : Bool :=
  match s.jobs with
  | [] => false
  | j :: _ => s.hasWork j && used + j.transfers ≤ Config.blockBudget

/-- R170: the coefficient updater has demand. -/
def State.updateDemand (s : State) : Bool := !s.sched.demand.isEmpty

/-- R170: the engine user to be served, if either has demand. -/
def State.engineGrant (s : State) (used : Nat) : Option Engine :=
  match s.copyDemand used, s.updateDemand, s.port.mark with
  | true, true, .copyUnit => some .updater
  | true, true, .updater => some .copyUnit
  | true, false, _ => some .copyUnit
  | false, true, _ => some .updater
  | false, false, _ => none

/-- The lowest-numbered page of a list. -/
def lowestPage : List Page → Option Page
  | [] => none
  | p :: ps =>
    match lowestPage ps with
    | some q => some (if q < p then q else p)
    | none => some p

/-- R178: the allocated pages whose written mark is set. -/
def State.scrubPages (s : State) : List Page :=
  (pagesHeld s.segs).filter fun p => s.pool.written.getLsbD p.val

/-- R178: the page of the next scrub read. -/
def State.scrubPage (s : State) : Option Page :=
  match lowestPage (s.scrubPages.filter fun p => s.port.scrubPos ≤ p.val) with
  | some p => some p
  | none => lowestPage s.scrubPages

/-- R171: the repair or scrub transfer that is due. -/
def State.careGrant (s : State) (a : Account) : Option Grant :=
  if Config.scrubAllowance ≤ a.scrub then none
  else if s.port.repairs ≠ [] then some .repair
  else s.scrubPage.map .scrub

/-- R169, orders 4 and 5. -/
def State.idleGrant (s : State) (a : Account) : Option Grant :=
  match s.storePending .background with
  | some l => some (.store l)
  | none => s.careGrant a

/-- R169, orders 3 to 5. -/
def State.engineOrIdle (s : State) (a : Account) : Option Grant :=
  match s.engineGrant a.total with
  | some .copyUnit => some .copyUnit
  | some .updater => some .updater
  | none => s.idleGrant a

/-- R169: the five orders. -/
def State.orderedGrant (s : State) (a : Account) : Option Grant :=
  match s.storePending .priority with
  | some l => some (.store l)
  | none =>
    if s.port.share ≤ s.port.engineCount then
      match s.storePending .background with
      | some l => some (.store l)
      | none => s.engineOrIdle a
    else s.engineOrIdle a

/-- R167 to R171: the next grant: no grant before the first boundary (R181) or past the budget, the
segment reads first, then by R169. -/
def State.nextGrant (s : State) : Option Grant :=
  match s.port.account with
  | none => none
  | some a =>
    if Config.blockBudget ≤ a.total then none
    else if s.work.reads ≠ [] then some .segmentRead
    else s.orderedGrant a

/-! ## Carrying out a grant -/

/-- R169, R170: an engine grant is counted, up to S, and the alternation mark names the user served. -/
def State.countEngine (e : Engine) (s : State) : State :=
  s.modPort fun k => { k with engineCount := min (k.engineCount + 1) k.share, mark := e }

/-- R170: an engine grant to the copy unit. -/
def State.grantCopyUnit (s : State) : State := (s.countEngine .copyUnit).serveCopyUnit

/-- R170: an engine grant to the coefficient updater. -/
def State.grantUpdater (s : State) : State := (s.countEngine .updater).adaptationWrite

/-- R171: a repair or scrub transfer is counted. -/
def State.chargeCare (s : State) : State := s.charge fun a => { a with scrub := a.scrub + 1 }

/-- R177: write the oldest entry of the repair list; every entry of its page goes. -/
def State.repairOldest (s : State) : State :=
  match s.port.repairs with
  | [] => s
  | r :: _ =>
    (s.chargeCare.partialWrite r.page r.word r.value).modPort fun k =>
      { k with repairsWritten := k.repairsWritten.bump }

/-- R178: the scrub position after a page, and the round counted when the search wrapped. -/
def Port.scrubPast (p : Page) (k : Port) : Port :=
  { k with
    scrubPos := if p.val = 8191 then 0 else p.val + 1
    scrubRounds := if p.val < k.scrubPos then k.scrubRounds.bump else k.scrubRounds }

/-- R178: one scrub read of a page. -/
def State.scrubRead (p : Page) (s : State) : State :=
  let ws := s.readWords p allWords
  (s.chargeCare.modPort (Port.scrubPast p)).noteWords .scrub true p ws

/-- The grant to a link's read request, if a read is what it waits for (R184: its entry is MAPPED). -/
def State.grantStoreRead (l : Link) (s : State) : State :=
  match s.links[l].request with
  | some r =>
    match r.kind, s.seg? r.addr with
    | .read, some e => s.storeRead l r e
    | .read, none => s
    | .write _, _ => s
  | none => s

/-- The grant to a link's write request, if a write is what it waits for (R184: its entry is
MAPPED). -/
def State.grantStoreWrite (l : Link) (s : State) : State :=
  match s.links[l].request with
  | some r =>
    match r.kind, s.seg? r.addr with
    | .write values, some e => s.storeWrite l r values e
    | .write _, none => s
    | .read, _ => s
  | none => s

end Sys2Proof.Machine
end

