-- ==== Sys2Proof/Machine/GrantRows.lean ====
section
/-! DEFINITION. The memory port's rows (10): each is one grant. The port's order says what is granted
next; a row whose grant is not next leaves the state (log entry 16). -/

namespace Sys2Proof.Machine

/-- SEGMENT_READ_GRANT (R84). -/
def execSegmentReadGrant (s : State) : Outcome :=
  .next (if s.nextGrant = some .segmentRead then s.segmentRead else s)

/-- ADAPTATION_WRITE_GRANT (R137). -/
def execAdaptationWriteGrant (s : State) : Outcome :=
  .next (if s.nextGrant = some .updater then s.grantUpdater else s)

/-- COPY_UNIT_GRANT (R150). -/
def execCopyUnitGrant (s : State) : Outcome :=
  .next (if s.nextGrant = some .copyUnit then s.grantCopyUnit else s)

/-- STORE_READ_GRANT (R182). -/
def execStoreReadGrant (s : State) : Outcome :=
  .next (match s.nextGrant with
    | some (.store l) => s.grantStoreRead l
    | _ => s)

/-- STORE_WRITE_GRANT (R185). -/
def execStoreWriteGrant (s : State) : Outcome :=
  .next (match s.nextGrant with
    | some (.store l) => s.grantStoreWrite l
    | _ => s)

/-- REPAIR_WRITE (R177). -/
def execRepairWrite (s : State) : Outcome :=
  .next (if s.nextGrant = some .repair then s.repairOldest else s)

/-- SCRUB_READ (R178). -/
def execScrubRead (s : State) : Outcome :=
  .next (match s.nextGrant with
    | some (.scrub p) => s.scrubRead p
    | _ => s)

end Sys2Proof.Machine
end

