-- ==== Sys2Proof/Machine/Dispatch.lean ====
section
/-! DEFINITION. One arm for each constructor of Instr. -/

namespace Sys2Proof.Machine

def exec (i : Instr) (s : State) : Host.Outcome State Fault Refusal :=
  match i with
  | .powerOnReset time => Sys2Proof.Machine.execPowerOnReset time s
  | .captureFrame bytes time => Sys2Proof.Machine.execCaptureFrame bytes time s
  | .watchExpiry => Sys2Proof.Machine.execWatchExpiry s
  | .freeRunningBoundary => Sys2Proof.Machine.execFreeRunningBoundary s
  | .badRunHoldover bytes time => Sys2Proof.Machine.execBadRunHoldover bytes time s
  | .relock bytes time => Sys2Proof.Machine.execRelock bytes time s
  | .inboundFrame link bytes => Sys2Proof.Machine.execInboundFrame link bytes s
  | .linkLock link bytes => Sys2Proof.Machine.execLinkLock link bytes s
  | .linkLapse link within => Sys2Proof.Machine.execLinkLapse link within s
  | .setBeamEnable link tag beam value => Sys2Proof.Machine.execSetBeamEnable link tag beam value s
  | .setBeamStep link tag beam value => Sys2Proof.Machine.execSetBeamStep link tag beam value s
  | .setBeamRegularisation link tag beam value => Sys2Proof.Machine.execSetBeamRegularisation link tag beam value s
  | .setBeamFarThreshold link tag beam value => Sys2Proof.Machine.execSetBeamFarThreshold link tag beam value s
  | .setBeamCoupling link tag beam value => Sys2Proof.Machine.execSetBeamCoupling link tag beam value s
  | .setBeamNearFloor link tag beam value => Sys2Proof.Machine.execSetBeamNearFloor link tag beam value s
  | .setBeamEntryCount link tag beam value => Sys2Proof.Machine.execSetBeamEntryCount link tag beam value s
  | .setBeamNormalCount link tag beam value => Sys2Proof.Machine.execSetBeamNormalCount link tag beam value s
  | .setBeamHangoverCount link tag beam value => Sys2Proof.Machine.execSetBeamHangoverCount link tag beam value s
  | .setBeamDivergenceMargin link tag beam value => Sys2Proof.Machine.execSetBeamDivergenceMargin link tag beam value s
  | .setBeamDivergenceCount link tag beam value => Sys2Proof.Machine.execSetBeamDivergenceCount link tag beam value s
  | .setBeamTargetRatio link tag beam value => Sys2Proof.Machine.execSetBeamTargetRatio link tag beam value s
  | .setBeamTrigger link tag beam value => Sys2Proof.Machine.execSetBeamTrigger link tag beam value s
  | .setBeamCaptureRatio link tag beam value => Sys2Proof.Machine.execSetBeamCaptureRatio link tag beam value s
  | .setBeamCaptureCount link tag beam value => Sys2Proof.Machine.execSetBeamCaptureCount link tag beam value s
  | .setBeamCaptureInterval link tag beam value => Sys2Proof.Machine.execSetBeamCaptureInterval link tag beam value s
  | .setBeamSuppressionGain link tag beam value => Sys2Proof.Machine.execSetBeamSuppressionGain link tag beam value s
  | .setBeamDoubleTalkGain link tag beam value => Sys2Proof.Machine.execSetBeamDoubleTalkGain link tag beam value s
  | .setBeamRestoreGain link tag beam value => Sys2Proof.Machine.execSetBeamRestoreGain link tag beam value s
  | .setBeamRampStep link tag beam value => Sys2Proof.Machine.execSetBeamRampStep link tag beam value s
  | .setBeamBeamLimit link tag beam value => Sys2Proof.Machine.execSetBeamBeamLimit link tag beam value s
  | .setDeviceClientShare link tag index value => Sys2Proof.Machine.execSetDeviceClientShare link tag index value s
  | .setDeviceHoldLimit link tag index value => Sys2Proof.Machine.execSetDeviceHoldLimit link tag index value s
  | .setDeviceLinkLockCount link tag index value => Sys2Proof.Machine.execSetDeviceLinkLockCount link tag index value s
  | .setDeviceCaptureLockCount link tag index value => Sys2Proof.Machine.execSetDeviceCaptureLockCount link tag index value s
  | .setDeviceZoneLimit link tag index value => Sys2Proof.Machine.execSetDeviceZoneLimit link tag index value s
  | .setDeviceZoneMute link tag index value => Sys2Proof.Machine.execSetDeviceZoneMute link tag index value s
  | .setMix link tag zone channel gain => Sys2Proof.Machine.execSetMix link tag zone channel gain s
  | .setReceive link tag count beams => Sys2Proof.Machine.execSetReceive link tag count beams s
  | .freeze link tag beams => Sys2Proof.Machine.execFreeze link tag beams s
  | .thaw link tag beams => Sys2Proof.Machine.execThaw link tag beams s
  | .setAccessMode link tag mode => Sys2Proof.Machine.execSetAccessMode link tag mode s
  | .setNoticeMask link tag flags => Sys2Proof.Machine.execSetNoticeMask link tag flags s
  | .clearNotices link tag flags => Sys2Proof.Machine.execClearNotices link tag flags s
  | .setRotation link tag mode => Sys2Proof.Machine.execSetRotation link tag mode s
  | .setBottom link tag beam => Sys2Proof.Machine.execSetBottom link tag beam s
  | .retrainBeam link tag beam => Sys2Proof.Machine.execRetrainBeam link tag beam s
  | .resetProcessing link tag => Sys2Proof.Machine.execResetProcessing link tag s
  | .mapSegments link tag beam zone first count => Sys2Proof.Machine.execMapSegments link tag beam zone first count s
  | .unmapSegments link tag beam zone first count => Sys2Proof.Machine.execUnmapSegments link tag beam zone first count s
  | .setWindow link tag beam zone window => Sys2Proof.Machine.execSetWindow link tag beam zone window s
  | .pinSegments link tag beam zone first count => Sys2Proof.Machine.execPinSegments link tag beam zone first count s
  | .unpinSegments link tag beam zone first count => Sys2Proof.Machine.execUnpinSegments link tag beam zone first count s
  | .setAnchoring link tag beam mode => Sys2Proof.Machine.execSetAnchoring link tag beam mode s
  | .checkpointBeam link tag beam => Sys2Proof.Machine.execCheckpointBeam link tag beam s
  | .restoreBeam link tag beam => Sys2Proof.Machine.execRestoreBeam link tag beam s
  | .clearBeam link tag beam => Sys2Proof.Machine.execClearBeam link tag beam s
  | .fillSegments link tag beam zone first count value => Sys2Proof.Machine.execFillSegments link tag beam zone first count value s
  | .readCoefficients link tag beam zone pos first count => Sys2Proof.Machine.execReadCoefficients link tag beam zone pos first count s
  | .writeCoefficients link tag beam zone pos first count values => Sys2Proof.Machine.execWriteCoefficients link tag beam zone pos first count values s
  | .queryBeam link tag beam clear => Sys2Proof.Machine.execQueryBeam link tag beam clear s
  | .queryPath link tag beam zone first => Sys2Proof.Machine.execQueryPath link tag beam zone first s
  | .queryPool link tag clear => Sys2Proof.Machine.execQueryPool link tag clear s
  | .queryScheduler link tag clear => Sys2Proof.Machine.execQueryScheduler link tag clear s
  | .queryLink link tag clear => Sys2Proof.Machine.execQueryLink link tag clear s
  | .queryMemory link tag clear => Sys2Proof.Machine.execQueryMemory link tag clear s
  | .queryTimer link tag clear => Sys2Proof.Machine.execQueryTimer link tag clear s
  | .segmentReadGrant => Sys2Proof.Machine.execSegmentReadGrant s
  | .talkStateChange beam within => Sys2Proof.Machine.execTalkStateChange beam within s
  | .divergenceDeclared beam within => Sys2Proof.Machine.execDivergenceDeclared beam within s
  | .captureTrigger beam within => Sys2Proof.Machine.execCaptureTrigger beam within s
  | .holdLimitAbandon lane within => Sys2Proof.Machine.execHoldLimitAbandon lane within s
  | .adaptationWriteGrant => Sys2Proof.Machine.execAdaptationWriteGrant s
  | .copyUnitGrant => Sys2Proof.Machine.execCopyUnitGrant s
  | .storeReadGrant => Sys2Proof.Machine.execStoreReadGrant s
  | .storeWriteGrant => Sys2Proof.Machine.execStoreWriteGrant s
  | .repairWrite => Sys2Proof.Machine.execRepairWrite s
  | .scrubRead => Sys2Proof.Machine.execScrubRead s
  | .unknownCommand link tag number params => Sys2Proof.Machine.execUnknownCommand link tag number params s

end Sys2Proof.Machine
end

