-- ==== Sys2Proof/Safety.lean ====
section
/-! DEFINITION. The terms the statements use: a link that executes a command at once, the response it
then holds, the record of each command row, and the invariants of a safe run. -/

namespace Sys2Proof.Machine

/-! ## Commands at a link -/

/-- R28: the place holds a response. -/
def Place.isAnswer (p : Place) : Bool :=
  match p.stage with
  | .answer _ _ => true
  | .queued _ => false
  | .executing _ => false

/-- R28, R29: the link is LOCKED, a place is free, and no command of the link waits or executes, so
that a command arriving is executed at once. -/
structure State.Ready (s : State) (l : Link) : Prop where
  locked : s.links[l].mode = .locked
  free : s.links[l].places.length < 4
  answered : ∀ p ∈ s.links[l].places, p.isAnswer = true

/-- R17, R30: s with one more place of link l, in ANSWER with nothing sent: tag, status code, result
length low byte first, result. -/
def State.respond (l : Link) (tag status : Byte) (result : List Byte) (s : State) : State :=
  s.modLink l fun k =>
    { k with places := k.places ++
        [⟨tag, .answer (tag :: status :: BitVec.ofNat 8 result.length ::
            BitVec.ofNat 8 (result.length / 256) :: result) 0⟩] }

/-- R28, R29: s with one more place of link l, whose command waits for its store transfer. -/
def State.execute (l : Link) (tag : Byte) (c : Command) (s : State) : State :=
  s.modLink l fun k => { k with places := k.places ++ [⟨tag, .executing c⟩] }

/-- R34, R35: the value a setting of range lo..hi stores for v: v in the range, else the nearer
bound. -/
def settingValue (lo hi : Nat) (v : Int) : Nat :=
  if v < lo then lo else if hi < v then hi else v.toNat

/-- R31, R34, R35: DONE (0) for a value in the range, CLAMPED (1) outside it. -/
def settingCode (lo hi : Nat) (v : Int) : Byte := if (lo : Int) ≤ v ∧ v ≤ hi then 0 else 1

/-- R34: s with an integer setting of beam b stored, answered. -/
def State.settingStored (l : Link) (tag : Byte) (b : Beam) (lo hi : Nat) (v : Int)
    (put : Nat → BeamSettings → BeamSettings) (s : State) : State :=
  (s.modBeam b fun k => { k with set := put (settingValue lo hi v) k.set }).respond l tag
    (settingCode lo hi v) []

/-- What a command row stands for: a command record (R17) arriving on a link. -/
structure Arrival where
  link : Link
  tag : Byte
  number : Byte
  params : List Byte
  deriving DecidableEq, Repr

/-- R32, R34, R35 and each owning chapter: the record of a command row; none for a row that is no
command. -/
def commandOf : Instr → Option Arrival
  | .setBeamEnable l t b v => some ⟨l, t, 1, b :: 1 :: leBytes 8 v.toNat⟩
  | .setBeamStep l t b v => some ⟨l, t, 1, b :: 2 :: leBytes 8 v.toNat⟩
  | .setBeamRegularisation l t b v => some ⟨l, t, 1, b :: 3 :: leBytes 8 v.toNat⟩
  | .setBeamFarThreshold l t b v => some ⟨l, t, 1, b :: 4 :: leBytes 8 v.toNat⟩
  | .setBeamCoupling l t b v => some ⟨l, t, 1, b :: 5 :: leBytes 8 v.toNat⟩
  | .setBeamNearFloor l t b v => some ⟨l, t, 1, b :: 6 :: leBytes 8 v.toNat⟩
  | .setBeamEntryCount l t b v => some ⟨l, t, 1, b :: 7 :: leBytes 8 v.toNat⟩
  | .setBeamNormalCount l t b v => some ⟨l, t, 1, b :: 8 :: leBytes 8 v.toNat⟩
  | .setBeamHangoverCount l t b v => some ⟨l, t, 1, b :: 9 :: leBytes 8 v.toNat⟩
  | .setBeamDivergenceMargin l t b v => some ⟨l, t, 1, b :: 10 :: leBytes 8 v.toNat⟩
  | .setBeamDivergenceCount l t b v => some ⟨l, t, 1, b :: 11 :: leBytes 8 v.toNat⟩
  | .setBeamTargetRatio l t b v => some ⟨l, t, 1, b :: 12 :: leBytes 8 v.toNat⟩
  | .setBeamTrigger l t b v => some ⟨l, t, 1, b :: 13 :: leBytes 8 v.toNat⟩
  | .setBeamCaptureRatio l t b v => some ⟨l, t, 1, b :: 14 :: leBytes 8 v.toNat⟩
  | .setBeamCaptureCount l t b v => some ⟨l, t, 1, b :: 15 :: leBytes 8 v.toNat⟩
  | .setBeamCaptureInterval l t b v => some ⟨l, t, 1, b :: 16 :: leBytes 8 v.toNat⟩
  | .setBeamSuppressionGain l t b v => some ⟨l, t, 1, b :: 17 :: leBytes 8 v.toNat⟩
  | .setBeamDoubleTalkGain l t b v => some ⟨l, t, 1, b :: 18 :: leBytes 8 v.toNat⟩
  | .setBeamRestoreGain l t b v => some ⟨l, t, 1, b :: 19 :: leBytes 8 v.toNat⟩
  | .setBeamRampStep l t b v => some ⟨l, t, 1, b :: 20 :: leBytes 8 v.toNat⟩
  | .setBeamBeamLimit l t b v => some ⟨l, t, 1, b :: 21 :: leBytes 8 v.toNat⟩
  | .setDeviceClientShare l t i v => some ⟨l, t, 2, 1 :: i :: leBytes 4 v.toNat⟩
  | .setDeviceHoldLimit l t i v => some ⟨l, t, 2, 2 :: i :: leBytes 4 v.toNat⟩
  | .setDeviceLinkLockCount l t i v => some ⟨l, t, 2, 3 :: i :: leBytes 4 v.toNat⟩
  | .setDeviceCaptureLockCount l t i v => some ⟨l, t, 2, 4 :: i :: leBytes 4 v.toNat⟩
  | .setDeviceZoneLimit l t i v => some ⟨l, t, 2, 5 :: i :: leBytes 4 v.toNat⟩
  | .setDeviceZoneMute l t i v => some ⟨l, t, 2, 6 :: i :: leBytes 4 v.toNat⟩
  | .setMix l t z c g => some ⟨l, t, 3, z :: c :: leBytes 2 g.toNat⟩
  | .setReceive l t n bs => some ⟨l, t, 4, n :: bs⟩
  | .freeze l t bs => some ⟨l, t, 5, leBytes 2 bs.toNat⟩
  | .thaw l t bs => some ⟨l, t, 6, leBytes 2 bs.toNat⟩
  | .setAccessMode l t m => some ⟨l, t, 7, [m]⟩
  | .setNoticeMask l t f => some ⟨l, t, 8, [f]⟩
  | .clearNotices l t f => some ⟨l, t, 9, [f]⟩
  | .setRotation l t m => some ⟨l, t, 10, [m]⟩
  | .setBottom l t b => some ⟨l, t, 11, [b]⟩
  | .retrainBeam l t b => some ⟨l, t, 12, [b]⟩
  | .resetProcessing l t => some ⟨l, t, 13, []⟩
  | .mapSegments l t b z f c => some ⟨l, t, 14, [b, z, f, c]⟩
  | .unmapSegments l t b z f c => some ⟨l, t, 15, [b, z, f, c]⟩
  | .setWindow l t b z w => some ⟨l, t, 16, [b, z, w]⟩
  | .pinSegments l t b z f c => some ⟨l, t, 17, [b, z, f, c]⟩
  | .unpinSegments l t b z f c => some ⟨l, t, 18, [b, z, f, c]⟩
  | .setAnchoring l t b m => some ⟨l, t, 19, [b, m]⟩
  | .checkpointBeam l t b => some ⟨l, t, 20, [b]⟩
  | .restoreBeam l t b => some ⟨l, t, 21, [b]⟩
  | .clearBeam l t b => some ⟨l, t, 22, [b]⟩
  | .fillSegments l t b z f c v => some ⟨l, t, 23, b :: z :: f :: c :: leBytes 4 v.toNat⟩
  | .readCoefficients l t b z p f c => some ⟨l, t, 24, [b, z, p, f, c]⟩
  | .writeCoefficients l t b z p f c vs =>
    some ⟨l, t, 25, b :: z :: p :: f :: c :: vs.flatMap fun v => leBytes 4 v.toNat⟩
  | .queryBeam l t b c => some ⟨l, t, 26, [b, c]⟩
  | .queryPath l t b z f => some ⟨l, t, 27, [b, z, f]⟩
  | .queryPool l t c => some ⟨l, t, 28, [c]⟩
  | .queryScheduler l t c => some ⟨l, t, 29, [c]⟩
  | .queryLink l t c => some ⟨l, t, 30, [c]⟩
  | .queryMemory l t c => some ⟨l, t, 31, [c]⟩
  | .queryTimer l t c => some ⟨l, t, 32, [c]⟩
  | .unknownCommand l t n ps => some ⟨l, t, n, ps⟩
  | .powerOnReset _ => none
  | .captureFrame _ _ => none
  | .watchExpiry => none
  | .freeRunningBoundary => none
  | .badRunHoldover _ _ => none
  | .relock _ _ => none
  | .inboundFrame _ _ => none
  | .linkLock _ _ => none
  | .linkLapse _ _ => none
  | .segmentReadGrant => none
  | .talkStateChange _ _ => none
  | .divergenceDeclared _ _ => none
  | .captureTrigger _ _ => none
  | .holdLimitAbandon _ _ => none
  | .adaptationWriteGrant => none
  | .copyUnitGrant => none
  | .storeReadGrant => none
  | .storeWriteGrant => none
  | .repairWrite => none
  | .scrubRead => none

/-- A command that a record can name with its own parameters: all but a malformed record, whose bytes
are not kept, and lists longer than a count byte can say. -/
def Command.canArrive : Command → Bool
  | .malformed _ => false
  | .unknown n => unknownNumber n
  | .setReceive bs => bs.length < 256
  | .writeCoefficients _ _ _ _ vs => vs.length < 256
  | _ => true

/-- The parameter length that R34, R35, R40, R183 and the other chapters give each command number, for
parameters that begin with the given bytes. -/
def paramLength (number : Nat) (ps : List Byte) : Nat :=
  match number with
  | 1 => 10
  | 2 => 6
  | 3 => 4
  | 4 => 1 + (ps.getD 0 0).toNat
  | 5 => 2
  | 6 => 2
  | 13 => 0
  | 14 => 4
  | 15 => 4
  | 16 => 3
  | 17 => 4
  | 18 => 4
  | 19 => 2
  | 23 => 8
  | 24 => 5
  | 25 => 5 + 4 * (ps.getD 4 0).toNat
  | 26 => 2
  | 27 => 3
  | _ => 1

/-- R30: the pieces that a link's places give at successive boundaries, with their marks, until the
first boundary that carries none or the fuel ends. -/
def piecesOf : Nat → List Place → List (List Byte × Bool)
  | 0, _ => []
  | n + 1, ps =>
    match sendPiece ps with
    | (none, _) => []
    | (some q, ps') => q :: piecesOf n ps'

/-! ## Records and frames -/

/-- R33: the number in the n bytes of a record from an offset on, low byte first. -/
def field (r : List Byte) (offset n : Nat) : Nat := fromLe ((r.drop offset).take n)

/-- R71, R74: a segment address lies in the positions first to first + count - 1 of path (b, z). -/
def SegAddr.within (b : Beam) (z : Zone) (first count : Nat) (a : SegAddr) : Bool :=
  a.beam == b && a.zone == z && decide (first ≤ a.pos.val) && decide (a.pos.val < first + count)

/-- Every setting a client holds is the same in both states: the beams' switches, windows and
settings, the zones' gains, limits and mutes, the links' masks and receive lists, and the settings of
the scheduler, the port, the timer and the links. -/
structure State.SettingsKept (s u : State) : Prop where
  enable : ∀ b : Beam, u.beams[b].enable = s.beams[b].enable
  anchoring : ∀ b : Beam, u.beams[b].anchoring = s.beams[b].anchoring
  windows : ∀ b : Beam, u.beams[b].windows = s.beams[b].windows
  settings : ∀ b : Beam, u.beams[b].set = s.beams[b].set
  gains : ∀ z : Zone, u.zones[z].gains = s.zones[z].gains
  limit : ∀ z : Zone, u.zones[z].limit = s.zones[z].limit
  mute : ∀ z : Zone, u.zones[z].mute = s.zones[z].mute
  mask : ∀ l : Link, u.links[l].mask = s.links[l].mask
  receive : ∀ l : Link, u.links[l].receive = s.links[l].receive
  rotation : u.sched.rotation = s.sched.rotation
  holdLimit : u.sched.holdLimit = s.sched.holdLimit
  share : u.port.share = s.port.share
  captureLock : u.timer.lockCount = s.timer.lockCount
  linkLock : u.linkLock = s.linkLock

/-! ## The timer's events -/

/-- R7, R8: no event of the timer's own comes before time t. -/
def Timer.quietUntil (t : Time) (k : Timer) : Prop :=
  match k.mode with
  | .run mark => t ≤ mark + 1250000
  | .holdover => t ≤ k.lastBoundary + 1000000

/-- R4 to R8, R10: command c makes a block boundary in s: the status of the block it begins, its time,
and the samples that the capture port then holds. -/
def MakesBoundary (c : Instr) (s : State) (status : CaptureStatus) (t : Time)
    (samples : Vector (List Sample) 16) : Prop :=
  match c, s.timer.mode with
  | .freeRunningBoundary, .holdover =>
    status = .holdover ∧ t = s.timer.lastBoundary + 1000000 ∧ samples = silence
  | .watchExpiry, .run mark => status = .holdover ∧ t = mark + 1250000 ∧ samples = silence
  | .captureFrame bytes time, .run mark =>
    time = t ∧ t ≤ mark + 1250000 ∧ s.timer.lastBoundary + 500000 < t ∧
      match parseCapture bytes with
      | some v => status = .good ∧ samples = v
      | none =>
        status = (if s.timer.badRun < 3 then .badFrame else .holdover) ∧ samples = silence
  | .captureFrame bytes time, .holdover =>
    time = t ∧ t ≤ s.timer.lastBoundary + 1000000 ∧ s.timer.lastBoundary + 500000 < t ∧
      status = .good ∧ parseCapture bytes = some samples ∧ s.timer.lockCount ≤ s.timer.goodRun + 1
  | .badRunHoldover bytes time, .run mark =>
    time = t ∧ t ≤ mark + 1250000 ∧ s.timer.lastBoundary + 500000 < t ∧
      status = .holdover ∧ samples = silence ∧ parseCapture bytes = none ∧ 3 ≤ s.timer.badRun
  | .relock bytes time, .holdover =>
    time = t ∧ t ≤ s.timer.lastBoundary + 1000000 ∧ s.timer.lastBoundary + 500000 < t ∧
      status = .good ∧ parseCapture bytes = some samples ∧ s.timer.lockCount ≤ s.timer.goodRun + 1
  | _, _ => False

/-- The row that a carrier of an event names. -/
def carrierRow : Carrier → Instr
  | .segmentRead => .segmentReadGrant
  | .captureFrame bytes time => .captureFrame bytes time
  | .watchExpiry => .watchExpiry
  | .freeRunning => .freeRunningBoundary
  | .inboundFrame l bytes => .inboundFrame l bytes

/-! ## The links' frames -/

/-- R23, R25: a link after a good frame: the bad run ends, the next count is expected, and each channel's
block goes to its buffer, which keeps its oldest 128 samples; a block that does not fit whole is an
overrun. The assembly and the lost records counter are the ones the frame's piece leaves (R20). -/
def LinkState.afterGood (f : InFrame) (assembly : Option Assembly) (lost : Counter) (k : LinkState) :
    LinkState :=
  { k with
    badRun := 0, expected := f.count + 1, fill := min 128 (k.fill + 32)
    slips := (List.zipWith (· ++ ·) k.slips f.samples).map (·.take 128)
    notices := if 96 < k.fill then k.notices ||| 0x40#8 else k.notices
    overruns := if 96 < k.fill then k.overruns.bump else k.overruns
    assembly := assembly
    lostRecords := lost }

/-! ## Playback -/

/-- R26: sample n of the block that a slip buffer of `fill` samples, oldest first, gives at a boundary:
above 80 the oldest is left out, from 48 on the oldest 32 are given, from 32 on the 31st is given twice,
and below 32 zeros follow what is left. -/
def playedSample (fill : Nat) (xs : List Sample) (n : Nat) : Sample :=
  if 80 < fill then xs.getD (n + 1) 0
  else if 48 ≤ fill then xs.getD n 0
  else if 32 ≤ fill then xs.getD (min n 30) 0
  else if n < fill then xs.getD n 0 else 0

/-! ## The estimator's reads -/

/-- R84, R89, R167, R168: the next grant is the read of x, the last that its beam waits for, and `rest`
is asked for after it. The read is granted when the entry of x is MAPPED, else dropped. -/
structure State.LastAsked (s : State) (x : SegAddr) (rest : List SegAddr) (a : Account) : Prop where
  account : s.port.account = some a
  room : a.total < 2048
  reads : s.work.reads = x :: rest
  last : ∀ y ∈ rest, y.beam ≠ x.beam

/-- R84: the entry whose page the read of x returns: none when the read is dropped. -/
def State.readEntry (s : State) (x : SegAddr) : Option Segment :=
  (s.seg? x).filter fun e => e.state == .mapped

/-! ## The memory port -/

/-- R165, log entry 9: byte a of the DRAM lies in page p, whose 128 words take nine bytes each. -/
def inPage (p : Page) (a : Nat) : Prop := 1152 * p.val ≤ a ∧ a < 1152 * p.val + 1152

/-- R166: of some words of a page, those that a read finds uncorrectable. -/
def lostAmong (m : List Host.Cell) (p : Page) (is : List Nat) : List Nat :=
  is.filter fun i => readWord m p i == .uncorrectable

/-- R166, R172: of some words of a page, those that a read corrects, each with its corrected value. -/
def correctedAmong (m : List Host.Cell) (p : Page) (is : List Nat) : List Repair :=
  is.filterMap fun i =>
    match readWord m p i with
    | .clean _ => none
    | .corrected v => some ⟨p, i, v⟩
    | .uncorrectable => none

/-- R166: the words of a whole page that a read finds uncorrectable, ascending. -/
def lostWords (m : List Host.Cell) (p : Page) : List Nat := lostAmong m p (List.range 128)

/-- 10, the page word: the 256 coefficients that a read of a page hands to its reader, an uncorrectable
word as zeros (R173, R174). -/
def coefsOf (m : List Host.Cell) (p : Page) : List Coef :=
  (List.range 128).flatMap fun i =>
    let d := (readWord m p i).value
    [d.extractLsb' 0 32, d.extractLsb' 32 32]

/-- R173, R174: the port's error record, repair list and corrections-not-kept counter after a read of
some words of a page, given ascending. The corrections are offered to the repair list, in that order (log
entry 29), but for those of a store write's boundary words (R176): one already listed adds nothing (log
entry 19), the first ones that the 8 places hold are kept and the rest are counted. The
last-uncorrectable field names the highest word lost. -/
def Port.afterWords (reader : Reader) (offer : Bool) (block : BlockNo) (m : List Host.Cell) (p : Page)
    (is : List Nat) (k : Port) : Port :=
  let offered := if offer then (correctedAmong m p is).filter fun r =>
    k.repairs.all fun q => q.page != r.page || q.word != r.word else []
  { k with
    singleBit := k.singleBit.add (correctedAmong m p is).length
    uncorrectable := k.uncorrectable.add (lostAmong m p is).length
    last := match (lostAmong m p is).getLast? with
      | some i => some ⟨p, i, block, reader⟩
      | none => k.last
    repairs := k.repairs ++ offered.take (8 - k.repairs.length)
    notKept := k.notKept.add (offered.length - (8 - k.repairs.length)) }

/-- R173, R174: the port after a read of a whole page. -/
def Port.afterRead (reader : Reader) (block : BlockNo) (m : List Host.Cell) (p : Page) (k : Port) : Port :=
  k.afterWords reader true block m p (List.range 128)

/-- R174: the notices of every link after a read, with STORE FAULT when it lost a word. -/
def LinkState.afterLoss (lost : List Nat) (k : LinkState) : LinkState :=
  { k with notices := if lost = [] then k.notices else k.notices ||| 0x08#8 }

/-- R64, R174: the segment table after a read of the segment page of x, whose entry is damaged when the
read lost a word. -/
def damagedAt (x : SegAddr) (lost : List Nat) (segs : List Segment) : List Segment :=
  segs.map fun f => if f.addr = x ∧ lost ≠ [] then { f with damaged := true } else f

/-- R169: l is the first link in link order of those in an access mode with a store request pending. -/
def State.FirstStore (s : State) (m : Access) (l : Link) : Prop :=
  s.links[l].access = m ∧ s.links[l].request ≠ none ∧
    ∀ k : Link, k < l → s.links[k].access = m → s.links[k].request = none

/-- R169: no link in an access mode has a store request pending. -/
def State.NoStore (s : State) (m : Access) : Prop :=
  ∀ l : Link, s.links[l].access = m → s.links[l].request = none

/-- R150, R167, R170: the copy unit has demand: the head job has a page left, and the budget has room
for its transfers, two for a copy pair. -/
def State.CopyAsks (s : State) (a : Account) : Prop :=
  ∃ (j : Job) (rest : List Job), s.jobs = j :: rest ∧ s.hasWork j = true ∧ a.total + j.transfers ≤ 2048

/-- R178: the page is allocated and its written mark is set. -/
def State.ScrubReads (s : State) (p : Page) : Prop :=
  s.role p ≠ .free ∧ s.pool.written.getLsbD p.val = true

/-- R178: p is the page of the next scrub read: the lowest such page at or above the scrub position,
or the lowest of all when there is none. -/
def State.ScrubNext (s : State) (p : Page) : Prop :=
  s.ScrubReads p ∧
    ((s.port.scrubPos ≤ p.val ∧ ∀ q : Page, s.ScrubReads q → s.port.scrubPos ≤ q.val → p ≤ q) ∨
      ((∀ q : Page, s.ScrubReads q → q.val < s.port.scrubPos) ∧
        ∀ q : Page, s.ScrubReads q → p ≤ q))

/-- R168 to R171: a repair or scrub transfer is what the port grants next: the budget has room, no
segment read, store request or engine demand is pending, and fewer than 4 of them were made. -/
structure State.CareDue (s : State) (a : Account) : Prop where
  account : s.port.account = some a
  room : a.total < 2048
  reads : s.work.reads = []
  stores : ∀ l : Link, s.links[l].request = none
  copy : ¬ s.CopyAsks a
  demand : s.sched.demand = []
  allowance : a.scrub < 4

/-- R147: what a job came from; a FILL or ZERO always comes from a command. -/
def Job.origin : Job → Origin
  | .capture _ o _ _ => o
  | .restore _ o _ _ => o
  | .clear _ o _ => o
  | .fill _ _ _ _ _ _ l => .command l
  | .zero _ _ _ _ l => .command l

/-- R37: JOB DONE of a job of that origin is raised in link m: the issuing link, or all three when it is
not LOCKED; all three for a divergence; none for the trigger. -/
def State.jobDoneIn (s : State) (o : Origin) (m : Link) : Bool :=
  match o with
  | .command l => m == l || s.links[l].mode == .search
  | .divergence => true
  | .trigger => false

/-- R29, R182, R185: outcome o is that of a store transfer which leaves s otherwise. The request of link
l is done, and its command, behind the answered places ps, is answered; then the commands queued behind
it execute as R29 says: none when none waits, and one alone as its row does when it arrives. -/
def State.AnswersStore (s : State) (l : Link) (ps : List Place) (tag status : Byte) (result : List Byte)
    (waiting : List Place) (o : Host.Outcome State Fault Refusal) : Prop :=
  let t (ws : List Place) : State :=
    ((s.modLink l fun k => { k with request := none, places := ps }).respond l tag status result).modLink l
      fun k => { k with places := k.places ++ ws }
  o = .next ((t waiting).drain l) ∧
  (waiting = [] → o = .next (t [])) ∧
  ∀ (c : Instr) (r : Arrival), commandOf c = some r → r.link = l → r.params.length ≤ 261 →
    waiting = [⟨r.tag, .queued (parseCommand r.number r.params)⟩] → o = exec c (t [])

/-- R28, R29, R184: link l waits for a store transfer: its places are answered, then the one that
executes, then queued ones. -/
structure State.WaitsForStore (s : State) (l : Link) (ps : List Place) (tag : Byte) (c : Command)
    (waiting : List Place) : Prop where
  locked : s.links[l].mode = .locked
  places : s.links[l].places = ps ++ ⟨tag, .executing c⟩ :: waiting
  answered : ∀ p ∈ ps, p.isAnswer = true
  queued : ∀ p ∈ waiting, ∃ d, p.stage = .queued d
  room : s.links[l].places.length ≤ 4

/-! ## The copy unit's work -/

/-- R150: the page that one grant of a job reads for an entry; none for a job that only writes. -/
def Job.source (e : Segment) : Job → Option Page
  | .capture _ _ _ _ => some e.page
  | .restore _ _ _ _ => e.anchor
  | .clear _ _ _ => none
  | .fill _ _ _ _ _ _ _ => none
  | .zero _ _ _ _ _ => none

/-- R150: the page that one grant of a job writes for an entry. -/
def Job.target (e : Segment) : Job → Option Page
  | .capture _ _ _ _ => e.anchor
  | .restore _ _ _ _ => some e.page
  | .clear _ _ _ => some e.page
  | .fill _ _ _ _ _ _ _ => some e.page
  | .zero _ _ _ _ _ => some e.page

/-- R73, R153, R156, R158, R159: word i of the page that one grant of a job writes: a word copied,
corrected, and zero where it is uncorrectable; or the job's constant. -/
def Job.word (m : List Host.Cell) (e : Segment) (i : Nat) : Job → DataWord
  | .capture _ _ _ _ => (readWord m e.page i).value
  | .restore _ _ _ _ => (e.anchor.map fun g => (readWord m g i).value).getD 0
  | .clear _ _ _ => 0
  | .fill _ _ _ _ v _ _ => v ++ v
  | .zero _ _ _ _ _ => 0

/-- R153, R156: a CAPTURE or RESTORE with its fault mark set when a grant lost a word. -/
def Job.afterLoss (lost : List Nat) : Job → Job
  | .capture b o n f => .capture b o n (f || lost != [])
  | .restore b o n f => .restore b o n (f || lost != [])
  | .clear b o n => .clear b o n
  | .fill b z first last v n l => .fill b z first last v n l
  | .zero b z ps n l => .zero b z ps n l

/-- R64, R73, R174, R175: the entry after a grant of a job that carries out its page. -/
def Job.entryAfter (lost : List Nat) (e : Segment) : Job → Segment
  | .capture _ _ _ _ => { e with damaged := e.damaged || lost != [] }
  | .restore _ _ _ _ => { e with damaged := false }
  | .clear _ _ _ => { e with damaged := false }
  | .fill _ _ _ _ _ _ _ => { e with damaged := false }
  | .zero _ _ _ _ _ => { e with state := .mapped, damaged := false }

/-- R151: a job of beam b whose completion sets the beam's latch. -/
def Job.setsLatch (b : Beam) : Job → Bool
  | .capture _ _ _ _ => false
  | .restore c _ _ _ => c == b
  | .clear c _ _ => c == b
  | .fill c _ _ _ _ _ _ => c == b
  | .zero c _ _ _ _ => c == b

/-- R151: a job of beam b whose completion ends the beam's divergence run. -/
def Job.endsRun (b : Beam) : Job → Bool
  | .capture _ _ _ _ => false
  | .restore c _ _ _ => c == b
  | .clear c _ _ => c == b
  | .fill _ _ _ _ _ _ _ => false
  | .zero _ _ _ _ _ => false

/-- R153: a CAPTURE of a beam whose fault mark is clear. -/
def Job.anchors : Job → Option Beam
  | .capture c _ _ false => some c
  | .capture _ _ _ true => none
  | .restore _ _ _ _ => none
  | .clear _ _ _ => none
  | .fill _ _ _ _ _ _ _ => none
  | .zero _ _ _ _ _ => none

/-- R156: a RESTORE of a beam whose fault mark is set. -/
def Job.givesUp : Job → Option Beam
  | .capture _ _ _ _ => none
  | .restore _ _ _ false => none
  | .restore c _ _ true => some c
  | .clear _ _ _ => none
  | .fill _ _ _ _ _ _ _ => none
  | .zero _ _ _ _ _ => none

/-- R151, R153, R156: beam b after the completion of some jobs at block number `block`. -/
def BeamState.afterJobs (b : Beam) (block : BlockNo) (done : List Job) (k : BeamState) : BeamState :=
  { k with
    latch := k.latch || done.any (Job.setsLatch b)
    talk := { k.talk with
      divergenceRun := if done.any (Job.endsRun b) then 0 else k.talk.divergenceRun }
    anchor := if some b ∈ done.map Job.anchors
      then { k.anchor with valid := true, block := block, captures := k.anchor.captures.bump }
      else if some b ∈ done.map Job.givesUp then { k.anchor with valid := false } else k.anchor }

/-- R37, R151, R153, R174: what the notices of link m gain at the completion of some jobs and the loss of
some words: JOB DONE, ANCHOR TAKEN and STORE FAULT. -/
def State.jobNotices (s : State) (m : Link) (done : List Job) (lost : List Nat) : Byte :=
  (if done.any fun k => s.jobDoneIn k.origin m then 0x02#8 else 0)
    ||| (if done.any fun k => k.anchors.isSome then 0x04#8 else 0)
    ||| (if lost = [] then 0 else 0x08#8)

/-- R161: the segments that a ZERO job still has to write. -/
def Job.unzeroed : Job → List SegAddr
  | .zero b z ps n _ => (ps.drop n).map fun p => ⟨b, z, p⟩
  | .capture _ _ _ _ => []
  | .restore _ _ _ _ => []
  | .clear _ _ _ => []
  | .fill _ _ _ _ _ _ _ => []

/-! ## Lane grants (07) -/

/-- R26, R27: the link's playback underruns at a boundary, which lapses it: its freeze mask and its store
request are gone when the lanes are granted (log entry 23). -/
def LinkState.underrunsNow (k : LinkState) : Bool := k.mode == .locked && decide (k.fill < 32)

/-- R116, R119, R123: at the boundary of a GOOD block the beam may take a lane: its request is present, it
is not masked, it is not in service and it has an eligible segment. The client-write holds of granted
writes end at the boundary (R184, log entry 23). -/
def State.takesLane (s : State) (b : Beam) : Bool :=
  (s.beams[b].latch || (s.beams[b].set.trigger == .level && s.beams[b].talk.request))
    && s.beams[b].enable && decide (0 < s.beams[b].set.mu) && s.beams[b].talk.state == .farOnly
    && !s.hasMaskingJob b
    && (s.links.toList.all fun k => k.underrunsNow || (!k.freeze.getLsbD b.val && !k.writesTo b))
    && (s.laneOf b).isNone && !(s.eligible b).isEmpty

/-! ## Evaluation (06) -/

/-- R99 to R104, R112, R188: an evaluation of beam b in a step from s to u, by the settings and the talk
record of s and the powers and zone energies of u. FE compares the energies of the zones on open paths
with the far threshold; NE compares Pd with their powers scaled by the coupling when FE, and with the near
floor else; the two name the candidate, whose run the count for the transition confirms. The request
condition follows, then the target gain and one ramp step of the current gain. -/
structure State.Evaluated (s u : State) (b : Beam) (cand : TalkState) (run count : Nat) : Prop where
  block : u.beams[b].talk.block = u.timer.block
  xb : u.beams[b].talk.xb = ((List.finRange 6).map fun z =>
    if 0 < s.beams[b].windows[z] then u.zones[z].ex else 0).sum
  pxb : u.beams[b].talk.pxb = ((List.finRange 6).map fun z =>
    if 0 < s.beams[b].windows[z] then u.zones[z].px else 0).sum
  far : u.beams[b].talk.fe = decide (s.beams[b].set.farThreshold < u.beams[b].talk.xb)
  near : u.beams[b].talk.ne = if u.beams[b].talk.fe = true
    then decide (s.beams[b].set.coupling * u.beams[b].talk.pxb < 256 * u.beams[b].est.pd)
    else decide (s.beams[b].set.nearFloor < u.beams[b].est.pd)
  verdict : cand = match u.beams[b].talk.fe, u.beams[b].talk.ne with
    | false, false => .quiet
    | true, false => .farOnly
    | false, true => .nearOnly
    | true, true => .double
  length : run = if s.beams[b].talk.candidate = some cand then s.beams[b].talk.run + 1 else 1
  confirm : count = if cand = .double then s.beams[b].set.entryCount
    else if cand = .farOnly ∧
        (s.beams[b].talk.state = .nearOnly ∨ s.beams[b].talk.state = .double)
      then s.beams[b].set.hangoverCount
    else s.beams[b].set.normalCount
  state : u.beams[b].talk.state = if count ≤ run then cand else s.beams[b].talk.state
  settled : cand = s.beams[b].talk.state ∨ count ≤ run →
    u.beams[b].talk.run = 0 ∧ u.beams[b].talk.candidate = none
  counting : cand ≠ s.beams[b].talk.state → run < count →
    u.beams[b].talk.run = run ∧ u.beams[b].talk.candidate = some cand
  request : u.beams[b].talk.request = (u.beams[b].talk.state == .farOnly && s.beams[b].enable
    && decide (0 < s.beams[b].set.mu)
    && decide (u.beams[b].est.pd < s.beams[b].set.targetRatio * u.beams[b].est.pe))
  target : u.beams[b].out.target =
    if u.modelState b = .restoring ∨ u.modelState b = .clearing then s.beams[b].set.restore
    else match u.beams[b].talk.state with
      | .farOnly => s.beams[b].set.suppression
      | .double => s.beams[b].set.doubleTalk
      | .quiet => 32768
      | .nearOnly => 32768
  current : u.beams[b].out.current = if s.beams[b].out.current < u.beams[b].out.target
    then min (s.beams[b].out.current + s.beams[b].set.ramp) u.beams[b].out.target
    else max (s.beams[b].out.current - s.beams[b].set.ramp) u.beams[b].out.target

/-- R106, R107: the evaluation of beam b in a step from s to u declares it diverged. -/
def State.declaresIn (s u : State) (b : Beam) : Bool :=
  s.beams[b].enable && (s.modelState b == .idle || s.modelState b == .capturing)
    && (u.beams[b].talk.state == .farOnly || u.beams[b].talk.state == .double)
    && decide ((16 + s.beams[b].set.margin) * u.beams[b].est.pd < 16 * u.beams[b].est.pe)
    && decide (s.beams[b].set.divergenceCount ≤ s.beams[b].talk.divergenceRun + 1)

/-- R116, R117: the request condition of beam b turns true in LATCHED mode in a step from s to u. -/
def State.requestRises (s u : State) (b : Beam) : Bool :=
  s.beams[b].set.trigger == .latched && u.beams[b].talk.request && !s.beams[b].talk.request

/-! ## The formation of the demand list (07) -/

/-- R125: the step of a carrier forms the block's demand list: it grants or drops the last read asked
for, or it is the boundary of a block with no read to ask for. -/
def State.FormsAt (s : State) (w : Carrier) : Prop :=
  (w = .segmentRead ∧ ∃ x a, s.LastAsked x [] a) ∨
  (s.work.reads = [] ∧ (∃ status t v, MakesBoundary (carrierRow w) s status t v) ∧
    ∀ e ∈ s.segs, e.state = .mapped → 0 < s.beams[e.addr.beam].windows[e.addr.zone] →
      s.beams[e.addr.beam].enable = false ∨ s.modelState e.addr.beam = .restoring ∨
        s.modelState e.addr.beam = .clearing)

/-- R99, R132: no evaluation in a step from s to u queues a job of beam b, which would abandon its pass:
the block is not GOOD, the step reads for another beam, or the evaluation of b left no job queued (log
entry 26 names the bit). -/
def State.keepsPass (s u : State) (b : Beam) : Bool :=
  u.timer.status != .good || s.work.reads.any (fun x => x.beam != b) || !u.beams[b].talk.copyQueued

/-- R130, R131: a formation in a step from s to u, in lane n of s, brings a held pass to the hold limit. -/
def State.reachesLimit (s u : State) (n : LaneNo) : Bool :=
  match s.sched.lanes[n] with
  | none => false
  | some p => u.masked p.beam && decide (s.sched.holdLimit ≤ p.age + 1) && s.keepsPass u p.beam

/-- The seven rows of the memory port. -/
def portRows : List Instr :=
  [.segmentReadGrant, .adaptationWriteGrant, .copyUnitGrant, .storeReadGrant, .storeWriteGrant,
    .repairWrite, .scrubRead]

/-! ## Invariants -/

/-- 02 R25, R28, R29, R40, 11 R184: what holds of every link. -/
structure LinkState.Sound (k : LinkState) : Prop where
  places : k.places.length ≤ 4
  executing : k.places.countP Place.isExecuting = if k.request.isSome then 1 else 0
  queued : k.request = none → ∀ p ∈ k.places, p.isAnswer = true
  channels : k.channels ≤ 4
  slipCount : k.mode = .locked → k.slips.length = k.channels
  slipLength : ∀ b ∈ k.slips, b.length = k.fill
  fill : k.fill ≤ 128
  badRun : k.badRun ≤ 3
  lockRun : k.lockRun ≤ 8
  receive : k.receive.length ≤ 8
  receiveNodup : k.receive.Nodup
  /-- R20: a record in progress has its first four bytes and is not yet whole. -/
  assembly : ∀ a, k.assembly = some a →
    4 ≤ a.bytes.length ∧ a.bytes.length < a.total ∧ a.total ≤ 265
  search : k.mode = .search →
    k.places = [] ∧ k.slips = [] ∧ k.fill = 0 ∧ k.assembly = none ∧ k.request = none ∧ k.freeze = 0
      ∧ k.access = .background

/-- The link invariant of the part: every link is sound and the lock count lies in 1..8 (R22). -/
structure State.LinksSound (s : State) : Prop where
  links : ∀ l : Link, s.links[l].Sound
  lockCount : 1 ≤ s.linkLock ∧ s.linkLock ≤ 8

/-- 01 R3, R4, R9, R11: what holds of the frame timer. -/
structure Timer.Sound (k : Timer) : Prop where
  goodRun : k.goodRun ≤ 7
  badRun : k.badRun ≤ 3
  lockCount : 1 ≤ k.lockCount ∧ k.lockCount ≤ 8
  inRun : k.mode ≠ .holdover → k.goodRun = 0
  inHoldover : k.mode = .holdover → k.badRun = 0

/-- 03 R52, R54, R55, R56: a zone's ring is whole and its energies are exact. -/
structure ZoneState.Exact (k : ZoneState) : Prop where
  ring : k.ring.length = Config.ringLength
  energies : ∀ i : Fin 7, k.energies[i] = energy (k.ring.take (windowLength i.val))
  ex : k.ex = energy (k.ring.take 32)

/-- 05 R92, R93, 08 R141, 12 R188, R192: settings in their ranges, the normaliser and the gains in
theirs. -/
structure BeamState.InRange (k : BeamState) : Prop where
  mu : k.set.mu ≤ 255
  delta : 65536 ≤ k.set.delta ∧ k.set.delta ≤ 1099511627776
  normaliser : 65536 ≤ k.est.normaliser
  suppression : k.set.suppression ≤ 32768
  doubleTalk : k.set.doubleTalk ≤ 32768
  restore : k.set.restore ≤ 32768
  ramp : 1 ≤ k.set.ramp ∧ k.set.ramp ≤ 32768
  limit : 1 ≤ k.set.limit ∧ k.set.limit ≤ 32767
  target : k.out.target ≤ 32768
  current : k.out.current ≤ 32768
  applied : k.out.applied ≤ 32768

/-- 04 R60: every window is one of the permitted values. -/
def BeamState.WindowsPermitted (k : BeamState) : Prop :=
  ∀ z : Zone, permittedWindow k.windows[z] = true

/-- Settings, gains and windows of every beam. -/
structure State.BeamsInRange (s : State) : Prop where
  beams : ∀ b : Beam, s.beams[b].InRange
  windows : ∀ b : Beam, s.beams[b].WindowsPermitted

/-- 09 R147, R148, R151, R161, 07 R120, 09 R152: the job list, whose head has work left and whose ZERO
jobs have at least one entry left to write, all of them CLEARING and each once; the lanes; and the
anchors. -/
structure State.JobsSound (s : State) : Prop where
  commands : s.commandJobs ≤ 16
  oneCopy : ∀ b : Beam, s.jobs.countP (fun j => j.isCopy && j.beam == b) ≤ 1
  ordered : ∀ j ∈ s.jobs.dropWhile Job.isRestoreClass, j.isRestoreClass = false
  head : ∀ j, s.jobs.head? = some j → s.hasWork j = true
  zeroing : ∀ b z ps n l, .zero b z ps n l ∈ s.jobs → ps.Nodup ∧ n < ps.length
  unzeroed : (s.jobs.flatMap Job.unzeroed).Nodup
  clearing : ∀ a ∈ s.jobs.flatMap Job.unzeroed, ∃ e, s.seg? a = some e ∧ e.state = .clearing
  captures : ∀ b : Beam, s.jobs.any (Job.isCaptureOf b) = true → s.beams[b].anchoring = true
  anchors : ∀ b : Beam, s.beams[b].anchor.valid = true →
    s.beams[b].anchoring = true ∧ s.jobs.any (Job.isCaptureOf b) = false
  lanes : ∀ (m n : LaneNo) (p q : Pass), s.sched.lanes[m] = some p → s.sched.lanes[n] = some q →
    p.beam = q.beam → m = n
  unmasked : ∀ (n : LaneNo) (p : Pass), s.sched.lanes[n] = some p → s.hasMaskingJob p.beam = false

/-- 04 R69, 10 R167: the active segment count and the block's budget. While reads are asked for, the
account holds reads only and no entry is listed (R168). -/
structure State.BudgetSound (s : State) : Prop where
  active : s.activeCount ≤ 1024
  started : s.port.account = none → s.work.reads = [] ∧ s.sched.demand = []
  total : ∀ a, s.port.account = some a → a.total ≤ 2048
  scrub : ∀ a, s.port.account = some a → a.scrub ≤ 4
  adaptation : ∀ a, s.port.account = some a → a.adaptation + s.sched.demand.length ≤ 256
  reads : ∀ a, s.port.account = some a → s.work.reads ≠ [] →
    a.total = a.segmentReads ∧ a.segmentReads + s.work.reads.length ≤ 1024 ∧ s.sched.demand = []

/-- 04 R62, R65, 10 R172: the table lists each entry once, in order; no page is named twice; the
repair list holds at most 8 words, none twice. -/
structure State.PoolSound (s : State) : Prop where
  sorted : s.segs.Pairwise fun e f => e.addr.index < f.addr.index
  pages : (pagesHeld s.segs).Nodup
  anchored : ∀ e ∈ s.segs, e.anchor.isSome = s.beams[e.addr.beam].anchoring
  repairs : s.port.repairs.length ≤ 8
  repairsOnce : (s.port.repairs.map fun r => (r.page, r.word)).Nodup

end Sys2Proof.Machine
end

