-- ==== Sys2Proof/Certificates/Slice0/Obligations.lean ====
section
/-! DEFINITION. The statements for the provers. Response codes are written as R31 numbers them: 0 DONE,
1 CLAMPED, 2 BAD ARGUMENT, 3 UNKNOWN COMMAND, 4 MALFORMED, 5 BEAM BUSY, 6 POOL SHORT, 7 OVER LIMIT,
8 JOB LIST FULL, 9 NOT MAPPED, 10 NO ANCHOR, 11 WINDOW CONFLICT, 12 STORE FAULT. -/

section
open Sys2Proof Sys2Proof.Machine

/-! ## The step -/

/-- A step takes the command at the front of the queue and runs it on the state with the queue's rest;
on an empty queue the part idles, which is the model's choice (log entry 8). -/
def Obligations.StepRunsTheFrontCommand : Prop :=
  (∀ (c : Instr) (rest : List Instr) (s : State), s.pending = c :: rest →
    step s = exec c (s.setPending rest)) ∧
  ∀ s : State, s.pending = [] → step s = .next s

/-- No row touches the queue. The attached DRAM changes only in the four rows that write pages (R137,
R150, R185, R177) and at power-on reset. No row but a command record, arriving as its row or in an
inbound frame or waiting behind a store transfer that is granted, and power-on reset changes a client's
setting. -/
def Obligations.WhatRowsLeaveAlone : Prop :=
  ∀ (c : Instr) (s t : State), exec c s = .next t →
    t.pending = s.pending ∧
    (c = .adaptationWriteGrant ∨ c = .copyUnitGrant ∨ c = .storeWriteGrant ∨ c = .repairWrite
      ∨ (∃ time, c = .powerOnReset time) ∨ t.mem = s.mem) ∧
    ((∃ r, commandOf c = some r) ∨ (∃ l bytes, c = .inboundFrame l bytes)
      ∨ c = .storeReadGrant ∨ c = .storeWriteGrant
      ∨ (∃ time, c = .powerOnReset time) ∨ s.SettingsKept t)

/-! ## Beam settings (R34) -/

/-- R34 with R92, R102, R104, R108, R111, R112, R192: each integer setting of SET BEAM stores a value
in its range as given and any other at the nearer bound, answers DONE or CLAMPED, and changes nothing
else. R141, R128: the step is stored so in 0..255, and a stored 0 also withdraws the beam's ungranted
entries. R117: the trigger mode is 0 LEVEL or 1 LATCHED, and any other value is BAD ARGUMENT. -/
def Obligations.BeamSettings : Prop :=
  ∀ (l : Link) (tag beam : Byte) (b : Beam) (v : BitVec 64) (s : State),
    s.Ready l → beam.toNat = b.val →
    exec (.setBeamRegularisation l tag beam v) s = .next (s.settingStored l tag b 65536 1099511627776
      v.toInt fun n k => { k with delta := n }) ∧
    exec (.setBeamFarThreshold l tag beam v) s = .next (s.settingStored l tag b 0 1099511627776
      v.toInt fun n k => { k with farThreshold := n }) ∧
    exec (.setBeamCoupling l tag beam v) s = .next (s.settingStored l tag b 1 65535
      v.toInt fun n k => { k with coupling := n }) ∧
    exec (.setBeamNearFloor l tag beam v) s = .next (s.settingStored l tag b 0 1099511627776
      v.toInt fun n k => { k with nearFloor := n }) ∧
    exec (.setBeamEntryCount l tag beam v) s = .next (s.settingStored l tag b 1 63
      v.toInt fun n k => { k with entryCount := n }) ∧
    exec (.setBeamNormalCount l tag beam v) s = .next (s.settingStored l tag b 1 63
      v.toInt fun n k => { k with normalCount := n }) ∧
    exec (.setBeamHangoverCount l tag beam v) s = .next (s.settingStored l tag b 1 63
      v.toInt fun n k => { k with hangoverCount := n }) ∧
    exec (.setBeamDivergenceMargin l tag beam v) s = .next (s.settingStored l tag b 0 255
      v.toInt fun n k => { k with margin := n }) ∧
    exec (.setBeamDivergenceCount l tag beam v) s = .next (s.settingStored l tag b 1 255
      v.toInt fun n k => { k with divergenceCount := n }) ∧
    exec (.setBeamTargetRatio l tag beam v) s = .next (s.settingStored l tag b 1 255
      v.toInt fun n k => { k with targetRatio := n }) ∧
    exec (.setBeamCaptureRatio l tag beam v) s = .next (s.settingStored l tag b 1 255
      v.toInt fun n k => { k with captureRatio := n }) ∧
    exec (.setBeamCaptureCount l tag beam v) s = .next (s.settingStored l tag b 1 65535
      v.toInt fun n k => { k with captureCount := n }) ∧
    exec (.setBeamCaptureInterval l tag beam v) s = .next (s.settingStored l tag b 0 1000000
      v.toInt fun n k => { k with captureInterval := n }) ∧
    exec (.setBeamSuppressionGain l tag beam v) s = .next (s.settingStored l tag b 0 32768
      v.toInt fun n k => { k with suppression := n }) ∧
    exec (.setBeamDoubleTalkGain l tag beam v) s = .next (s.settingStored l tag b 0 32768
      v.toInt fun n k => { k with doubleTalk := n }) ∧
    exec (.setBeamRestoreGain l tag beam v) s = .next (s.settingStored l tag b 0 32768
      v.toInt fun n k => { k with restore := n }) ∧
    exec (.setBeamRampStep l tag beam v) s = .next (s.settingStored l tag b 1 32768
      v.toInt fun n k => { k with ramp := n }) ∧
    exec (.setBeamBeamLimit l tag beam v) s = .next (s.settingStored l tag b 1 32767
      v.toInt fun n k => { k with limit := n }) ∧
    (0 < v.toInt → exec (.setBeamStep l tag beam v) s =
      .next (s.settingStored l tag b 0 255 v.toInt fun n k => { k with mu := n })) ∧
    (v.toInt ≤ 0 → exec (.setBeamStep l tag beam v) s =
      .next ((s.settingStored l tag b 0 255 v.toInt fun n k => { k with mu := n }).modSched fun k =>
        { k with demand := k.demand.filter fun d => d.addr.beam != b })) ∧
    (v = 0 → exec (.setBeamTrigger l tag beam v) s =
      .next ((s.modBeam b fun k => { k with set := { k.set with trigger := .level } }).respond l tag
        0 [])) ∧
    (v = 1 → exec (.setBeamTrigger l tag beam v) s =
      .next ((s.modBeam b fun k => { k with set := { k.set with trigger := .latched } }).respond l tag
        0 [])) ∧
    (v ≠ 0 → v ≠ 1 → exec (.setBeamTrigger l tag beam v) s = .next (s.respond l tag 2 []))

/-- R70, R69, R34: SET BEAM enable. A value other than 0 and 1 is BAD ARGUMENT, and the value already
held changes nothing. Enabling past 1024 active segments is refused with OVER LIMIT and counted; else
it turns the enable on. Disabling, with no CAPTURE of the beam listed, turns the enable off, clears the
latch, and frees the beam's lane with its ungranted entries withdrawn and the abandonment counted
(R132). Nothing else changes. -/
def Obligations.EnableSetting : Prop :=
  ∀ (l : Link) (tag beam : Byte) (b : Beam) (v : BitVec 64) (s : State),
    s.Ready l → beam.toNat = b.val →
    (v ≠ 0 → v ≠ 1 → exec (.setBeamEnable l tag beam v) s = .next (s.respond l tag 2 [])) ∧
    ((v = 0 ∧ s.beams[b].enable = false) ∨ (v = 1 ∧ s.beams[b].enable = true) →
      exec (.setBeamEnable l tag beam v) s = .next (s.respond l tag 0 [])) ∧
    (v = 1 → s.beams[b].enable = false → 1024 < s.activeCount + (s.segsOf b).length →
      exec (.setBeamEnable l tag beam v) s =
        .next ((s.modPool fun k => { k with overLimit := k.overLimit.bump }).respond l tag 7 [])) ∧
    (v = 1 → s.beams[b].enable = false → s.activeCount + (s.segsOf b).length ≤ 1024 →
      exec (.setBeamEnable l tag beam v) s =
        .next ((s.modBeam b fun k => { k with enable := true }).respond l tag 0 [])) ∧
    (v = 0 → s.beams[b].enable = true → s.jobs.any (Job.isCaptureOf b) = false →
      (s.laneOf b = none → exec (.setBeamEnable l tag beam v) s =
        .next ((s.modBeam b fun k => { k with enable := false, latch := false }).respond l tag 0 [])) ∧
      ∀ n, s.laneOf b = some n → exec (.setBeamEnable l tag beam v) s =
        .next (((s.modBeam b fun k => { k with enable := false, latch := false }).modSched fun k =>
          { k with
            lanes := k.lanes.set n none
            demand := k.demand.filter fun d => d.addr.beam != b
            abandons := k.abandons.bump }).respond l tag 0 []))

/-- R154, R70: disabling a beam with a CAPTURE listed aborts it: no CAPTURE of the beam is left, the
aborted captures counter rises by one, the enable is off, and the coefficients, the segment table, the
anchor's block number and capture count and the other beams' settings stay. With no FILL of the beam
listed its latch ends clear; a FILL that completes at the abort may set it again (log entry 28). -/
def Obligations.DisablingAbortsCapture : Prop :=
  ∀ (l : Link) (tag beam : Byte) (b : Beam) (s : State),
    s.Ready l → beam.toNat = b.val → s.beams[b].enable = true →
    s.jobs.any (Job.isCaptureOf b) = true → s.JobsSound →
    ∃ u : State, exec (.setBeamEnable l tag beam 0) s = .next u ∧
      u.beams[b].enable = false ∧
      u.jobs.any (Job.isCaptureOf b) = false ∧
      u.beams[b].anchor.aborted = s.beams[b].anchor.aborted.bump ∧
      u.beams[b].anchor.block = s.beams[b].anchor.block ∧
      u.beams[b].anchor.captures = s.beams[b].anchor.captures ∧
      u.laneOf b = none ∧
      ((∀ z first last v n m, .fill b z first last v n m ∉ s.jobs) → u.beams[b].latch = false) ∧
      u.mem = s.mem ∧ u.segs = s.segs ∧ u.pool = s.pool ∧ u.port = s.port ∧ u.timer = s.timer ∧
      ∀ c : Beam, c ≠ b → u.beams[c].set = s.beams[c].set ∧ u.beams[c].enable = s.beams[c].enable

/-! ## Device settings (R35) -/

/-- R35 with R169, R131, R22, R11, R49: each setting of SET DEVICE stores a value in its range as given
and any other at the nearer bound, and answers DONE or CLAMPED; the zone mute takes 0 or 1. An index
other than 0 (for a zone setting, above 5) is BAD ARGUMENT. Nothing else changes. -/
def Obligations.DeviceSettings : Prop :=
  ∀ (l : Link) (tag index : Byte) (v : BitVec 32) (s : State), s.Ready l →
    (index = 0 →
      exec (.setDeviceClientShare l tag index v) s =
        .next ((s.modPort fun k => { k with share := settingValue 1 4 v.toInt }).respond l tag
          (settingCode 1 4 v.toInt) []) ∧
      exec (.setDeviceHoldLimit l tag index v) s =
        .next ((s.modSched fun k => { k with holdLimit := settingValue 1 65535 v.toInt }).respond l tag
          (settingCode 1 65535 v.toInt) []) ∧
      exec (.setDeviceLinkLockCount l tag index v) s =
        .next ((s.setLinkLock (settingValue 1 8 v.toInt)).respond l tag (settingCode 1 8 v.toInt) []) ∧
      exec (.setDeviceCaptureLockCount l tag index v) s =
        .next ((s.modTimer fun k => { k with lockCount := settingValue 1 8 v.toInt }).respond l tag
          (settingCode 1 8 v.toInt) [])) ∧
    (index ≠ 0 → ∀ c ∈ [Instr.setDeviceClientShare l tag index v, .setDeviceHoldLimit l tag index v,
        .setDeviceLinkLockCount l tag index v, .setDeviceCaptureLockCount l tag index v],
      exec c s = .next (s.respond l tag 2 [])) ∧
    (∀ z : Zone, index.toNat = z.val →
      exec (.setDeviceZoneLimit l tag index v) s =
        .next ((s.modZone z fun k => { k with limit := settingValue 1 32767 v.toInt }).respond l tag
          (settingCode 1 32767 v.toInt) []) ∧
      exec (.setDeviceZoneMute l tag index v) s =
        .next (if v = 0 then (s.modZone z fun k => { k with mute := false }).respond l tag 0 []
          else if v = 1 then (s.modZone z fun k => { k with mute := true }).respond l tag 0 []
          else s.respond l tag 2 [])) ∧
    (5 < index.toNat →
      exec (.setDeviceZoneLimit l tag index v) s = .next (s.respond l tag 2 []) ∧
      exec (.setDeviceZoneMute l tag index v) s = .next (s.respond l tag 2 []))

/-! ## Link commands -/

/-- R46: SET MIX stores the gain in the zone's row and the issuing link's column 4·link + channel; a
zone above 5 or a channel above 3 is BAD ARGUMENT. No other gain and nothing else changes. -/
def Obligations.SetMixStoresTheGain : Prop :=
  ∀ (l : Link) (tag zone channel : Byte) (g : BitVec 16) (s : State), s.Ready l →
    (5 < zone.toNat ∨ 3 < channel.toNat →
      exec (.setMix l tag zone channel g) s = .next (s.respond l tag 2 [])) ∧
    ∀ z : Zone, zone.toNat = z.val → channel.toNat ≤ 3 →
      ∃ u : State, exec (.setMix l tag zone channel g) s = .next (u.respond l tag 0 []) ∧
        u = { s with zones := u.zones } ∧
        (∀ y : Zone, u.zones[y] = { s.zones[y] with gains := u.zones[y].gains }) ∧
        ∀ (y : Zone) (i : Fin 12), u.zones[y].gains[i] =
          if y = z ∧ i.val = 4 * l.val + channel.toNat then g else s.zones[y].gains[i]

/-- R40, R29: SET RECEIVE. A length that differs from the count is MALFORMED; more than 8 beams, a beam
above 15 or a beam twice is BAD ARGUMENT; else the list replaces the link's receive list. Nothing else
changes. -/
def Obligations.SetReceiveReplacesTheList : Prop :=
  ∀ (l : Link) (tag n : Byte) (bytes : List Byte) (s : State), s.Ready l → bytes.length ≤ 260 →
    (bytes.length ≠ n.toNat →
      exec (.setReceive l tag n bytes) s = .next (s.respond l tag 4 [])) ∧
    (bytes.length = n.toNat → (8 < n.toNat ∨ (∃ x ∈ bytes, 15 < x.toNat) ∨ ¬ bytes.Nodup) →
      exec (.setReceive l tag n bytes) s = .next (s.respond l tag 2 [])) ∧
    (bytes.length = n.toNat → n.toNat ≤ 8 → bytes.Nodup →
      ∀ bs : List Beam, bytes = bs.map (fun b => BitVec.ofNat 8 b.val) →
        exec (.setReceive l tag n bytes) s =
          .next ((s.modLink l fun k => { k with receive := bs }).respond l tag 0 []))

/-- R43, R38, R39, R122, R118: the commands of one parameter byte on the link's and the scheduler's
settings, each with its refusals. R42, R128: FREEZE adds beams to the issuing link's freeze mask and
withdraws their ungranted entries; THAW removes beams from it. Nothing else changes. -/
def Obligations.LinkAndSchedulerSettings : Prop :=
  ∀ (l : Link) (tag x : Byte) (beams : BitVec 16) (s : State), s.Ready l →
    exec (.freeze l tag beams) s =
      .next (((s.modLink l fun k => { k with freeze := k.freeze ||| beams }).modSched fun k =>
        { k with demand := k.demand.filter fun d => !beams.getLsbD d.addr.beam.val }).respond l tag
          0 []) ∧
    exec (.thaw l tag beams) s =
      .next ((s.modLink l fun k => { k with freeze := k.freeze &&& ~~~beams }).respond l tag 0 []) ∧
    exec (.setAccessMode l tag x) s =
      .next (if x = 0 then (s.modLink l fun k => { k with access := .background }).respond l tag 0 []
        else if x = 1 then (s.modLink l fun k => { k with access := .priority }).respond l tag 0 []
        else s.respond l tag 2 []) ∧
    exec (.setNoticeMask l tag x) s =
      .next ((s.modLink l fun k => { k with mask := x }).respond l tag 0 []) ∧
    exec (.clearNotices l tag x) s =
      .next ((s.modLink l fun k => { k with notices := k.notices &&& ~~~x }).respond l tag 0 []) ∧
    exec (.setRotation l tag x) s =
      .next (if x = 0 then (s.modSched fun k => { k with rotation := .rotating }).respond l tag 0 []
        else if x = 1 then (s.modSched fun k => { k with rotation := .fixed }).respond l tag 0 []
        else s.respond l tag 2 []) ∧
    (15 < x.toNat →
      exec (.setBottom l tag x) s = .next (s.respond l tag 2 []) ∧
      exec (.retrainBeam l tag x) s = .next (s.respond l tag 2 [])) ∧
    ∀ b : Beam, x.toNat = b.val →
      exec (.setBottom l tag x) s =
        .next ((s.modSched fun k => { k with bottom := b }).respond l tag 0 []) ∧
      exec (.retrainBeam l tag x) s =
        .next ((s.modBeam b fun k => { k with latch := true }).respond l tag 0 [])

/-- R36 with R58, R96, R115, R135, R193: RESET PROCESSING clears the history, the energies and powers,
the talk states and runs, the gains, the latches and the lanes, withdraws every ungranted entry, counts
one abandonment for each lane in service, and keeps everything else: the link state, the model, the
store, the job list, every setting and every other record. (That the talk record's bit for a queued copy
job is kept too is log entry 26.) -/
def Obligations.ResetProcessingClears : Prop :=
  ∀ (l : Link) (tag : Byte) (s : State), s.Ready l →
    ∃ u : State, exec (.resetProcessing l tag) s = .next (u.respond l tag 0 []) ∧
      u = { s with zones := u.zones, beams := u.beams, sched := u.sched } ∧
      (∀ z : Zone, u.zones[z] =
        { s.zones[z] with
          ring := List.replicate 16416 0, energies := Vector.replicate 7 0, ex := 0, px := 0 }) ∧
      (∀ b : Beam, u.beams[b] =
        { s.beams[b] with
          est := { s.beams[b].est with ed := 0, ey := 0, ee := 0, pd := 0, py := 0, pe := 0 }
          talk := { s.beams[b].talk with
            state := .quiet, candidate := none, run := 0, divergenceRun := 0, captureRun := 0
            request := false }
          latch := false
          out := { s.beams[b].out with target := 0, current := 0, applied := 0 } }) ∧
      u.sched = { s.sched with
        lanes := Vector.replicate 4 none
        demand := []
        abandons := s.sched.abandons.add
          ((List.finRange 4).countP fun n : LaneNo => s.sched.lanes[n].isSome) }

/-! ## Reset -/

/-- R3, R59, R81, R96, R115, R136, R146, R162, R181, R187, R193 with R11, R22, R36 to R43, R49: the
values of power-on reset. (The start of block 1's free-running period stands in the timer as its last
boundary, log entry 3, and the waiting commands stay, log entry 24.) -/
def Obligations.PowerOnResetValues : Prop :=
  ∀ (time : Time) (s : State), ∃ u : State, exec (.powerOnReset time) s = .next u ∧
    u.timer = ⟨.holdover, 0, time, 0, 0, 2, .holdover, 0, 0, 0, 0, 0⟩ ∧
    (∀ b : Beam, u.capture[b] = List.replicate 32 0) ∧
    u.speaker = [] ∧
    u.linkLock = 3 ∧
    (∀ l : Link, u.links[l].mode = .search ∧ u.links[l].lockRun = 0 ∧ u.links[l].channels = 0 ∧
      u.links[l].expected = 0 ∧ u.links[l].badRun = 0 ∧ u.links[l].slips = [] ∧ u.links[l].fill = 0 ∧
      u.links[l].places = [] ∧ u.links[l].assembly = none ∧
      u.links[l].notices = 0 ∧ u.links[l].mask = 255 ∧ u.links[l].receive = [] ∧
      u.links[l].freeze = 0 ∧ u.links[l].access = .background ∧ u.links[l].request = none ∧
      u.links[l].badFrames = 0 ∧ u.links[l].overruns = 0 ∧ u.links[l].slipDrops = 0 ∧
      u.links[l].repeats = 0 ∧ u.links[l].underruns = 0 ∧ u.links[l].cmdOverruns = 0 ∧
      u.links[l].lostRecords = 0 ∧ u.links[l].lapses = 0) ∧
    (∀ z : Zone, u.zones[z] = ⟨Vector.replicate 12 0, 32767, false, List.replicate 16416 0,
      Vector.replicate 7 0, 0, 0⟩) ∧
    (∀ b : Beam, u.beams[b].enable = false ∧ u.beams[b].anchoring = false ∧
      u.beams[b].windows = Vector.replicate 6 0 ∧
      u.beams[b].set = ⟨32, 16777216, 4194304, 128, 1048576, 1, 2, 8, 4, 20, 64, .level, 32, 500, 10000,
        4096, 16384, 1024, 2048, 32767⟩ ∧
      u.beams[b].talk = ⟨.quiet, none, 0, 0, 0, false, 0, false, false, 0, 0, 0, false⟩ ∧
      u.beams[b].latch = false ∧ u.beams[b].passes = 0 ∧ u.beams[b].anchor = ⟨false, 0, 0, 0⟩ ∧
      u.beams[b].out = ⟨0, 0, 0, List.replicate 32 0, 0, 0⟩ ∧
      u.beams[b].est.normaliser = 16777216 ∧ u.beams[b].est.pd = 0 ∧ u.beams[b].est.py = 0 ∧
      u.beams[b].est.pe = 0 ∧ u.beams[b].est.ed = 0 ∧ u.beams[b].est.ey = 0 ∧ u.beams[b].est.ee = 0 ∧
      u.beams[b].est.block = 0 ∧ u.beams[b].est.reads = 0 ∧ u.beams[b].est.zeroed = 0 ∧
      u.beams[b].est.estSats = 0 ∧ u.beams[b].est.errSats = 0 ∧ u.beams[b].est.uncorrectable = 0) ∧
    u.segs = [] ∧ u.freeCount = 8192 ∧ u.pool = ⟨0, 0, 0, 0⟩ ∧ u.jobs = [] ∧
    u.sched = ⟨Vector.replicate 4 none, 15, .rotating, 200, [], 0, 0, 0, 0, 0⟩ ∧
    u.port = ⟨none, 0, .updater, 2, [], 0, 0, 0, none, 0, {}, 0, 0, 0⟩ ∧
    u.writeHold = 0 ∧ u.pending = s.pending

/-- The reset state meets every invariant of the model that a step keeps. -/
def Obligations.ResetMeetsTheInvariants : Prop :=
  State.reset.LinksSound ∧ State.reset.timer.Sound ∧ (∀ z : Zone, State.reset.zones[z].Exact) ∧
    State.reset.BeamsInRange ∧ State.reset.JobsSound ∧ State.reset.BudgetSound ∧
    State.reset.PoolSound ∧ Memory.wf State.reset.mem = true

/-! ## The frame timer (01) -/

/-- R2: the bytes from a frame start make a valid capture frame exactly when at least 1028 of them came
and the first 1028 are the sync pair, 1024 sample bytes and their check word; the samples are those
bytes, beam by beam, low byte first. -/
def Obligations.CaptureFrameLayout : Prop :=
  (∀ bytes : List Byte, (parseCapture bytes).isSome = true ↔
    ∃ body tail : List Byte, body.length = 1024 ∧
      bytes = 0x5E#8 :: 0xC1#8 :: (body ++ checkBytes body ++ tail)) ∧
  ∀ (bytes : List Byte) (v : Vector (List Sample) 16), parseCapture bytes = some v →
    ∀ (b : Beam) (n : Nat), n < 32 → (v[b]).length = 32 ∧
      (v[b])[n]? = some (bytes.getD (2 + 64 * b.val + 2 * n + 1) 0
        ++ bytes.getD (2 + 64 * b.val + 2 * n) 0)

/-- R4, R5, R12: in RUN, past the guard, a valid frame begins a GOOD block and a bad frame short of the
fourth begins a BAD FRAME block; each moves the watch mark. The samples of a GOOD block are the
frame's, of any other silence. No setting and no byte of memory changes. -/
def Obligations.FrameInRun : Prop :=
  ∀ (bytes : List Byte) (t m : Time) (s : State), s.timer.mode = .run m → t ≤ m + 1250000 →
    s.timer.lastBoundary + 500000 < t →
    (∀ v, parseCapture bytes = some v →
      ∃ u : State, exec (.captureFrame bytes t) s = .next u ∧ s.SettingsKept u ∧ u.mem = s.mem ∧
        u.timer = { s.timer with
          mode := .run t, block := s.timer.block + 1, lastBoundary := t, badRun := 0, status := .good } ∧
        u.capture = v) ∧
    (parseCapture bytes = none → s.timer.badRun < 3 →
      ∃ u : State, exec (.captureFrame bytes t) s = .next u ∧ s.SettingsKept u ∧ u.mem = s.mem ∧
        u.timer = { s.timer with
          mode := .run t, block := s.timer.block + 1, lastBoundary := t
          badRun := s.timer.badRun + 1, status := .badFrame
          badFrames := s.timer.badFrames.bump } ∧
        ∀ b : Beam, u.capture[b] = List.replicate 32 0)

/-- R6, R9: a frame in RUN within the guard, valid or not, short of the fourth bad one, is counted and
discarded; in HOLDOVER a valid frame short of the lock count lengthens the good-frame run and a bad one
ends it. No boundary follows and nothing else changes. (The frames are judged in the state they find;
log entry 2 says what an overdue event does first.) -/
def Obligations.FrameDiscarded : Prop :=
  ∀ (bytes : List Byte) (t : Time) (s : State), s.timer.quietUntil t →
    (∀ m, s.timer.mode = .run m → t ≤ s.timer.lastBoundary + 500000 → s.timer.badRun < 3 →
      exec (.captureFrame bytes t) s = .next (s.modTimer fun k =>
        { k with
          badFrames := k.badFrames.bump
          earlyFrames := k.earlyFrames.bump
          badRun := k.badRun + 1 })) ∧
    (s.timer.mode = .holdover → (parseCapture bytes).isSome = true →
      s.timer.goodRun + 1 < s.timer.lockCount →
      exec (.captureFrame bytes t) s =
        .next (s.modTimer fun k => { k with goodRun := k.goodRun + 1 })) ∧
    (s.timer.mode = .holdover → parseCapture bytes = none →
      exec (.captureFrame bytes t) s = .next (s.modTimer fun k =>
        { k with goodRun := 0, badFrames := k.badFrames.bump }))

/-- R5, R6, R14: the fourth bad frame in a row in RUN puts the timer in HOLDOVER, counted, with CAPTURE
STATE in all links: past the guard with the boundary of a HOLDOVER block, within it with none. The row
BAD_RUN_HOLDOVER is that frame; on any other frame it leaves the state, which is the model's choice (log
entry 1): a frame at a bad run below 3, a valid one past the guard, one that comes after the watch has
expired (log entry 2), and any frame in HOLDOVER. -/
def Obligations.BadRunEntersHoldover : Prop :=
  ∀ (bytes : List Byte) (t : Time) (s : State),
    (∀ m, s.timer.mode = .run m → t ≤ m + 1250000 →
      (s.timer.badRun = 3 → t ≤ s.timer.lastBoundary + 500000 →
        ∀ c ∈ [Instr.captureFrame bytes t, .badRunHoldover bytes t],
          exec c s = .next ((s.modTimer fun k =>
            { k with
              mode := .holdover, goodRun := 0, badRun := 0
              badFrames := k.badFrames.bump
              earlyFrames := k.earlyFrames.bump
              holdoverEntries := k.holdoverEntries.bump }).mapLinks fun k =>
                { k with notices := k.notices ||| 0x10#8 })) ∧
      (s.timer.badRun = 3 → s.timer.lastBoundary + 500000 < t → parseCapture bytes = none →
        ∀ c ∈ [Instr.captureFrame bytes t, .badRunHoldover bytes t],
          ∃ u : State, exec c s = .next u ∧ s.SettingsKept u ∧ u.mem = s.mem ∧
            u.timer = { s.timer with
              mode := .holdover, block := s.timer.block + 1, lastBoundary := t, goodRun := 0, badRun := 0
              status := .holdover, badFrames := s.timer.badFrames.bump
              holdoverEntries := s.timer.holdoverEntries.bump } ∧
            (∀ b : Beam, u.capture[b] = List.replicate 32 0) ∧
            ∀ l : Link, u.links[l].notices.getLsbD 4 = true) ∧
      (s.timer.badRun < 3 ∨
          (s.timer.lastBoundary + 500000 < t ∧ (parseCapture bytes).isSome = true) →
        exec (.badRunHoldover bytes t) s = .next s)) ∧
    (∀ m, s.timer.mode = .run m → m + 1250000 < t → exec (.badRunHoldover bytes t) s = .next s) ∧
    (s.timer.mode = .holdover → exec (.badRunHoldover bytes t) s = .next s)

/-- R10, R14: in HOLDOVER the valid frame that brings the good-frame run to the capture lock count puts
the timer in RUN, counted, with CAPTURE STATE in all links and the watch mark at its arrival: past the
guard with the boundary of a GOOD block, within it with none. The row RELOCK is that frame; on any
other frame it leaves the state (log entry 1). -/
def Obligations.GoodRunRelocks : Prop :=
  ∀ (bytes : List Byte) (t : Time) (s : State), s.timer.mode = .holdover →
    t ≤ s.timer.lastBoundary + 1000000 →
    (∀ v, parseCapture bytes = some v → s.timer.lockCount ≤ s.timer.goodRun + 1 →
      ∀ c ∈ [Instr.captureFrame bytes t, .relock bytes t],
        (t ≤ s.timer.lastBoundary + 500000 →
          exec c s = .next ((s.modTimer fun k =>
            { k with
              mode := .run t, goodRun := 0, badRun := 0, relocks := k.relocks.bump }).mapLinks fun k =>
                { k with notices := k.notices ||| 0x10#8 })) ∧
        (s.timer.lastBoundary + 500000 < t →
          ∃ u : State, exec c s = .next u ∧ s.SettingsKept u ∧ u.mem = s.mem ∧
            u.timer = { s.timer with
              mode := .run t, block := s.timer.block + 1, lastBoundary := t, goodRun := 0, badRun := 0
              status := .good, relocks := s.timer.relocks.bump } ∧
            u.capture = v ∧ ∀ l : Link, u.links[l].notices.getLsbD 4 = true)) ∧
    (parseCapture bytes = none ∨ s.timer.goodRun + 1 < s.timer.lockCount →
      exec (.relock bytes t) s = .next s)

/-- R7, R8, R14: the watch expiry in RUN enters HOLDOVER at the close of the window, counted, with
CAPTURE STATE in all links; the free-running boundary comes one period after the last boundary. Each
begins a HOLDOVER block of silence. In the other timer state the event cannot happen and the row leaves
the state (log entry 1). -/
def Obligations.OwnBoundaries : Prop :=
  ∀ s : State,
    (∀ m, s.timer.mode = .run m →
      exec .freeRunningBoundary s = .next s ∧
      ∃ u : State, exec .watchExpiry s = .next u ∧ s.SettingsKept u ∧ u.mem = s.mem ∧
        u.timer = { s.timer with
          mode := .holdover, block := s.timer.block + 1, lastBoundary := m + 1250000
          goodRun := 0, badRun := 0, status := .holdover
          watchExpiries := s.timer.watchExpiries.bump
          holdoverEntries := s.timer.holdoverEntries.bump } ∧
        (∀ b : Beam, u.capture[b] = List.replicate 32 0) ∧
        ∀ l : Link, u.links[l].notices.getLsbD 4 = true) ∧
    (s.timer.mode = .holdover →
      exec .watchExpiry s = .next s ∧
      ∃ u : State, exec .freeRunningBoundary s = .next u ∧ s.SettingsKept u ∧ u.mem = s.mem ∧
        u.timer = { s.timer with
          block := s.timer.block + 1, lastBoundary := s.timer.lastBoundary + 1000000
          status := .holdover } ∧
        ∀ b : Beam, u.capture[b] = List.replicate 32 0)

/-! ## The work of a boundary -/

/-- R167, R184, R189, R12: at a boundary the account that ends is the latest-block record and a fresh
one opens, the client-write holds of granted writes end, each beam's current gain is its applied gain,
and the capture port holds the block's samples. The segment table, the page pool, the memory and every
setting stay. -/
def Obligations.BoundaryTurnsTheBlock : Prop :=
  ∀ (c : Instr) (s : State) (status : CaptureStatus) (t : Time) (v : Vector (List Sample) 16),
    MakesBoundary c s status t v → s.work.reads = [] →
    ∃ u : State, exec c s = .next u ∧
      u.timer.block = s.timer.block + 1 ∧ u.timer.status = status ∧ u.timer.lastBoundary = t ∧
      u.capture = v ∧ u.writeHold = 0 ∧
      (∀ a, s.port.account = some a →
        u.port = { s.port with account := some {}, latestBlock := s.timer.block, latest := a }) ∧
      (s.port.account = none → u.port = { s.port with account := some {} }) ∧
      (∀ b : Beam, u.beams[b].out.applied = s.beams[b].out.current) ∧
      u.segs = s.segs ∧ u.pool = s.pool ∧ u.mem = s.mem ∧ u.pending = s.pending ∧ s.SettingsKept u

/-- R26, R27: what a boundary takes from a link's slip buffers, by their fill: 33 samples above 80, 32
from 48 on, 31 from 32 on, and below 32 all that is left, which lapses the link; and the block of 32
samples that each buffer gives the mixer, as `playedSample` says it. A SEARCH link gives nothing and is
not changed. The places and the notices are the subject of other statements. -/
def Obligations.BoundaryTakesPlayback : Prop :=
  ∀ (c : Instr) (s : State) (status : CaptureStatus) (t : Time) (v : Vector (List Sample) 16) (l : Link),
    MakesBoundary c s status t v → s.work.reads = [] →
    (s.links[l].mode = .search → s.links[l].handover = []) ∧
    (s.links[l].mode = .locked → s.links[l].Sound →
      s.links[l].handover.length = s.links[l].channels ∧
      ∀ (i : Nat) (xs : List Sample), s.links[l].slips[i]? = some xs →
        s.links[l].handover[i]? =
          some ((List.range 32).map fun n => playedSample s.links[l].fill xs n)) ∧
    ∃ u : State, exec c s = .next u ∧
      (s.links[l].mode = .search → u.links[l] = { s.links[l] with
        notices := u.links[l].notices, outFrame := u.links[l].outFrame }) ∧
      (s.links[l].mode = .locked → 80 < s.links[l].fill →
        u.links[l].notices.getLsbD 6 = true ∧
        u.links[l] = { s.links[l] with
          notices := u.links[l].notices, outFrame := u.links[l].outFrame, places := u.links[l].places
          slips := s.links[l].slips.map (·.drop 33), fill := s.links[l].fill - 33
          slipDrops := s.links[l].slipDrops.bump }) ∧
      (s.links[l].mode = .locked → 48 ≤ s.links[l].fill → s.links[l].fill ≤ 80 →
        u.links[l] = { s.links[l] with
          notices := u.links[l].notices, outFrame := u.links[l].outFrame, places := u.links[l].places
          slips := s.links[l].slips.map (·.drop 32), fill := s.links[l].fill - 32 }) ∧
      (s.links[l].mode = .locked → 32 ≤ s.links[l].fill → s.links[l].fill < 48 →
        u.links[l].notices.getLsbD 6 = true ∧
        u.links[l] = { s.links[l] with
          notices := u.links[l].notices, outFrame := u.links[l].outFrame, places := u.links[l].places
          slips := s.links[l].slips.map (·.drop 31), fill := s.links[l].fill - 31
          repeats := s.links[l].repeats.bump }) ∧
      (s.links[l].mode = .locked → s.links[l].fill < 32 →
        u.links[l].notices.getLsbD 6 = true ∧
        u.links[l] = { s.links[l] with
          mode := .search, lockRun := 0, badRun := 0, places := [], slips := [], fill := 0
          assembly := none, request := none, freeze := 0, access := .background
          lostRecords := if s.links[l].assembly.isSome then s.links[l].lostRecords.bump
            else s.links[l].lostRecords
          underruns := s.links[l].underruns.bump, lapses := s.links[l].lapses.bump
          notices := u.links[l].notices, outFrame := u.links[l].outFrame })

/-- R26, R47 to R49, R51, R52, R55, R56, R16: at a boundary each zone's feed is the sum, over the
channels of the LOCKED links, of the zone's gain in column 4·link + channel times the channel's played
sample, divided by 16384, saturated, limited and muted; the speaker frame carries the six feeds; each
ring takes its feed and each power its energy. The mix table, the limits and the mutes stay. -/
def Obligations.BoundaryMixesTheZones : Prop :=
  ∀ (c : Instr) (s : State) (status : CaptureStatus) (t : Time) (v : Vector (List Sample) 16),
    MakesBoundary c s status t v → s.work.reads = [] → (∀ l : Link, s.links[l].Sound) →
    ∃ (u : State) (feeds : Vector (List Sample) 6), exec c s = .next u ∧
      (∀ z : Zone, feeds[z] = (List.range 32).map fun n =>
        if s.zones[z].mute then 0
        else BitVec.ofInt 16 (clampInt (-(s.zones[z].limit : Int)) s.zones[z].limit
          (clampInt (-32768) 32767 (roundDiv
            ((List.finRange 3).map fun l : Link =>
              if s.links[l].mode = .locked then
                ((List.range s.links[l].channels).map fun i =>
                  (s.zones[z].gains.toList.getD (4 * l.val + i) 0).toInt
                    * (playedSample s.links[l].fill (s.links[l].slips.getD i []) n).toInt).sum
              else 0).sum 16384)))) ∧
      (∀ z : Zone, u.zones[z] = { s.zones[z] with
        ring := (feeds[z].reverse ++ s.zones[z].ring).take 16416
        energies := u.zones[z].energies
        ex := energy feeds[z]
        px := s.zones[z].px - s.zones[z].px / 16 + energy feeds[z] / 16 }) ∧
      u.speaker = 0x5E#8 :: 0xD2#8 :: (BitVec.ofNat 8 (s.timer.block.toNat + 1)
          :: feeds.toList.flatMap samplesToBytes
        ++ checkBytes (BitVec.ofNat 8 (s.timer.block.toNat + 1)
          :: feeds.toList.flatMap samplesToBytes)) ∧
      u.speaker.length = 389

/-- R41, R30, R26, R37, R38, R191: the outbound frame a link sends at a boundary: the low byte of the new
block's number, the number of its receive list, the notices its mask enables, the output blocks formed
in the block before, in the list's order, and the next piece of its oldest place in ANSWER, whose place
moves on by the piece and is freed with its last. The notices are those the link held, with SLIP when
this boundary's take drops, repeats or underruns and CAPTURE STATE when the frame timer changes state
with it; that a flag of this boundary shows in its own frame is the model's reading (log entry 21). A link
that underruns sends as in SEARCH. The mark of a frame without a piece is left free (log entry 10). -/
def Obligations.BoundarySendsFrames : Prop :=
  ∀ (c : Instr) (s : State) (status : CaptureStatus) (t : Time) (v : Vector (List Sample) 16) (l : Link),
    MakesBoundary c s status t v → s.work.reads = [] →
    ∃ (u : State) (notices message : Byte) (piece : List Byte), exec c s = .next u ∧
      notices = s.links[l].notices
        ||| (if s.links[l].mode = .locked ∧ (80 < s.links[l].fill ∨ s.links[l].fill < 48) then 0x40#8
          else 0#8)
        ||| (if (s.timer.mode == .holdover) = (u.timer.mode == .holdover) then 0#8 else 0x10#8) ∧
      u.links[l].outFrame = linkFrame (BitVec.ofNat 8 (s.timer.block.toNat + 1)
        :: BitVec.ofNat 8 s.links[l].receive.length :: message :: (notices &&& s.links[l].mask)
        :: (s.links[l].receive.flatMap fun b => samplesToBytes s.beams[b].out.samples) ++ piece) ∧
      (s.links[l].mode = .locked → s.links[l].fill < 32 →
        piece = [] ∧ message &&& 0x7F#8 = 0 ∧ u.links[l].places = []) ∧
      (s.links[l].mode = .search ∨
          (32 ≤ s.links[l].fill ∧ ∀ p ∈ s.links[l].places, p.isAnswer = false) →
        piece = [] ∧ message &&& 0x7F#8 = 0 ∧ u.links[l].places = s.links[l].places) ∧
      ∀ (ps qs : List Place) (tag : Byte) (record : List Byte) (sent : Nat),
        s.links[l].mode = .locked → 32 ≤ s.links[l].fill → (∀ p ∈ ps, p.isAnswer = false) →
        s.links[l].places = ps ++ ⟨tag, .answer record sent⟩ :: qs →
        piece = (record.drop sent).take 60 ∧
        message = BitVec.ofNat 8 piece.length ||| (if 0 < sent then 0x80#8 else 0#8) ∧
        u.links[l].places = if sent + 60 < record.length
          then ps ++ ⟨tag, .answer record (sent + 60)⟩ :: qs else ps ++ qs

/-- R82, R83: the reads asked for at a boundary are those of the MAPPED entries on open paths of the
enabled beams that are IDLE or CAPTURING, in table order; the estimator takes the zones' rings and
energies and the enables as they then stand. R87 to R91, R93, R13, R99, R190: a beam for which no read
is asked, disabled, RESTORING or CLEARING, or with no MAPPED entry on an open path, completes at the
boundary: its estimate is silence and its error the captured block, their energies and, in a GOOD block,
the powers follow; the normaliser is the regularisation and the energies its windows cover; the output
block is the error of a live beam scaled by the applied gain and clamped. Only in a GOOD block it is
evaluated (R100 to R104, R112, R116, R188): its talk state, request condition, target and current gain are
as `Evaluated` says, and its latch is set when the condition turns true in LATCHED mode; else they stay. A
completion of a job of the beam and the hold limit, which set the latch too, are the subject of other
statements. -/
def Obligations.BoundaryStartsTheEstimates : Prop :=
  ∀ (c : Instr) (s : State) (status : CaptureStatus) (t : Time) (v : Vector (List Sample) 16),
    MakesBoundary c s status t v → s.work.reads = [] →
    ∃ u : State, exec c s = .next u ∧
      u.work.reads = (s.segs.filter fun e => e.state == .mapped && s.beams[e.addr.beam].enable
        && (s.modelState e.addr.beam == .idle || s.modelState e.addr.beam == .capturing)
        && decide (0 < s.beams[e.addr.beam].windows[e.addr.zone])).map (·.addr) ∧
      u.work.bases = [] ∧
      (∀ z : Zone, u.work.rings[z] = u.zones[z].ring ∧ u.work.energies[z] = u.zones[z].energies) ∧
      (∀ b : Beam, u.work.enabled.getLsbD b.val = s.beams[b].enable) ∧
      ∀ b : Beam,
        (∀ e ∈ s.segs, e.addr.beam = b → e.state = .mapped → 0 < s.beams[b].windows[e.addr.zone] →
          s.beams[b].enable = false ∨ s.modelState b = .restoring ∨ s.modelState b = .clearing) →
        u.beams[b].est.block = s.timer.block + 1 ∧ u.beams[b].est.reads = 0 ∧
        u.beams[b].est.zeroed = 0 ∧
        u.beams[b].est.y = List.replicate 32 0 ∧ u.beams[b].est.e = v[b] ∧
        u.beams[b].est.ed = energy (v[b]) ∧ u.beams[b].est.ey = 0 ∧
        u.beams[b].est.ee = energy (v[b]) ∧
        u.beams[b].est.estSats = s.beams[b].est.estSats ∧
        u.beams[b].est.errSats = s.beams[b].est.errSats ∧
        u.beams[b].est.uncorrectable = s.beams[b].est.uncorrectable ∧
        ((∀ z : Zone, s.zones[z].Exact) → s.beams[b].WindowsPermitted →
          u.beams[b].est.normaliser = s.beams[b].set.delta + ((List.finRange 6).map fun z =>
            energy (u.zones[z].ring.take (256 * s.beams[b].windows[z]))).sum) ∧
        u.beams[b].out.block = s.timer.block + 1 ∧
        (status ≠ .good →
          u.beams[b].est.pd = s.beams[b].est.pd ∧ u.beams[b].est.py = s.beams[b].est.py ∧
          u.beams[b].est.pe = s.beams[b].est.pe ∧ u.beams[b].talk = s.beams[b].talk ∧
          u.beams[b].out.target = s.beams[b].out.target ∧
          u.beams[b].out.current = s.beams[b].out.current) ∧
        (status = .good → s.JobsSound → ∃ cand run count, s.Evaluated u b cand run count) ∧
        (s.JobsSound →
          (s.beams[b].latch = true ∨ s.requestRises u b = true → u.beams[b].latch = true) ∧
          (status ≠ .good ∨ s.declaresIn u b = false → u.jobs = s.jobs → s.laneOf b = none →
            u.beams[b].latch = (s.beams[b].latch || s.requestRises u b))) ∧
        (status = .good →
          u.beams[b].est.pd = s.beams[b].est.pd - s.beams[b].est.pd / 16 + energy (v[b]) / 16 ∧
          u.beams[b].est.py = s.beams[b].est.py - s.beams[b].est.py / 16 ∧
          u.beams[b].est.pe = s.beams[b].est.pe - s.beams[b].est.pe / 16 + energy (v[b]) / 16) ∧
        (status ≠ .good ∨ s.beams[b].enable = false →
          u.beams[b].out.samples = List.replicate 32 0 ∧
          u.beams[b].out.clamps = s.beams[b].out.clamps) ∧
        ∀ scaled : List Int, status = .good → s.beams[b].enable = true →
          scaled = v[b].map (fun x => roundDiv (x.toInt * s.beams[b].out.current) 32768) →
          u.beams[b].out.samples = scaled.map (fun q => BitVec.ofInt 16
            (clampInt (-(s.beams[b].set.limit : Int)) s.beams[b].set.limit q)) ∧
          u.beams[b].out.clamps = s.beams[b].out.clamps.add (scaled.countP fun q =>
            decide (q < -(s.beams[b].set.limit : Int) ∨ (s.beams[b].set.limit : Int) < q))

/-- R121, R123: at the boundary of a GOOD block the free lanes, lowest number first, go to the beams that
may take one, in the priority order, until either runs out: a beam that requests, is not masked, is not in
service and has an eligible segment. The pass of a granted beam starts at its first eligible segment with
age and count 0, and its latch is cleared. Lanes left over stay free, and a beam that is granted none keeps
a set latch. In a block that is not GOOD no lane is granted. (That a client write of the block that ends
and the freeze of a link that underruns at the boundary mask no more when the lanes are granted is log
entry 23.) -/
def Obligations.BoundaryGrantsALane : Prop :=
  ∀ (c : Instr) (s : State) (status : CaptureStatus) (t : Time) (v : Vector (List Sample) 16),
    MakesBoundary c s status t v → s.work.reads = [] →
    ∀ (free : List LaneNo) (takers : List Beam),
      free = (List.finRange 4).filter (fun n => (s.sched.lanes[n]).isNone) →
      takers = ((List.finRange 16).map fun i => s.sched.bottom + 1 + i).filter
        (fun b => status == .good && s.takesLane b) →
      ∃ u : State, exec c s = .next u ∧
        (∀ (n : LaneNo) (b : Beam), (n, b) ∈ free.zip takers →
          (∃ e es, s.eligible b = e :: es ∧
            u.sched.lanes[n] = some ⟨b, e.addr.point, false, 0, 0, s.timer.block + 1⟩) ∧
          (s.hasJob b = false ∨ u.jobs = s.jobs → u.beams[b].latch = false)) ∧
        (∀ n ∈ free.drop takers.length, u.sched.lanes[n] = none) ∧
        ∀ b : Beam, b ∉ takers.take free.length → s.beams[b].latch = true → u.beams[b].latch = true

/-! ## The links' frames (02 R17 to R27) -/

/-- R17, R18, R19: the bytes of a valid frame of c channels of 32 samples and a piece of at most 60
bytes are received as that frame, whatever follows them; and any change of the sync pair or of the
check word, or an end before the frame's last byte, makes it bad. A header with a channel count above 4, a piece
length above 60 or bit 6 of the message byte set makes any frame bad. -/
def Obligations.LinkFrameRoundTrip : Prop :=
  (∀ (count reserved : Byte) (channels : List (List Sample)) (piece tail : List Byte) (mark : Bool),
    channels.length ≤ 4 → (∀ xs ∈ channels, xs.length = 32) → piece.length ≤ 60 →
    let message : Byte := BitVec.ofNat 8 piece.length ||| (if mark then 0x80#8 else 0#8)
    let covered := [count, BitVec.ofNat 8 channels.length, message, reserved]
      ++ channels.flatMap samplesToBytes ++ piece
    parseInbound (linkFrame covered ++ tail) = some ⟨count, channels.length, channels, mark, piece⟩ ∧
    (∀ a b : Byte, (a, b) ≠ (0xA7#8, 0x3C#8) →
      parseInbound (a :: b :: (covered ++ checkBytes covered ++ tail)) = none) ∧
    (∀ w : List Byte, w.length = 2 → w ≠ checkBytes covered →
      parseInbound ([0xA7#8, 0x3C#8] ++ covered ++ w ++ tail) = none) ∧
    ∀ n, n < (linkFrame covered).length → parseInbound ((linkFrame covered).take n) = none) ∧
  ∀ (count channels message reserved : Byte) (rest : List Byte),
    4 < channels.toNat ∨ 60 < message.toNat % 64 ∨ message.getLsbD 6 = true →
    parseInbound (0xA7#8 :: 0x3C#8 :: count :: channels :: message :: reserved :: rest) = none

/-- R21, R22, R25: in SEARCH a bad frame is counted and ends the lock run; a valid frame lengthens the run
if its count is the next and its channel count the same, else starts it at 1. Below the link lock count
nothing more happens, and the row LINK_LOCK leaves the state (log entry 1). The frame that brings the
run to the lock count locks the link, which LINK_LOCK is: its channel count is kept, each channel's
buffer holds a block of zeros and the frame's block (fill 64), the next count is expected, and no record
is in progress; the frame's piece is discarded. Nothing else changes. -/
def Obligations.SearchAndLock : Prop :=
  ∀ (l : Link) (bytes : List Byte) (s : State), s.links[l].mode = .search →
    s.links[l].assembly = none →
    (parseInbound bytes = none →
      exec (.inboundFrame l bytes) s = .next (s.modLink l fun k =>
        { k with badFrames := k.badFrames.bump, lockRun := 0 }) ∧
      exec (.linkLock l bytes) s = .next s) ∧
    ∀ (f : InFrame) (run : Nat), parseInbound bytes = some f →
      (run = if 0 < s.links[l].lockRun ∧ f.count = s.links[l].runCount + 1
          ∧ f.channels = s.links[l].runChannels then s.links[l].lockRun + 1 else 1) →
      (run < s.linkLock →
        exec (.inboundFrame l bytes) s = .next (s.modLink l fun k =>
          { k with lockRun := run, runCount := f.count, runChannels := f.channels }) ∧
        exec (.linkLock l bytes) s = .next s) ∧
      (s.linkLock ≤ run → ∀ c ∈ [Instr.inboundFrame l bytes, .linkLock l bytes],
        exec c s = .next (s.modLink l fun k =>
          { k with
            mode := .locked, channels := f.channels, fill := 64, expected := f.count + 1, badRun := 0
            slips := f.samples.map fun xs => List.replicate 32 0 ++ xs
            assembly := none, lockRun := 0, runCount := f.count, runChannels := f.channels }))

/-- R20, R23, R25: a good frame in LOCKED with no piece: the bad run ends, the next count is expected, and
each channel's block goes to its buffer, which keeps its oldest 128 samples; a block that does not fit
whole is an overrun, counted and noticed once. A record in progress goes on, and nothing else changes. -/
def Obligations.GoodFrameFillsTheBuffers : Prop :=
  ∀ (l : Link) (bytes : List Byte) (f : InFrame) (s : State), s.links[l].mode = .locked →
    s.links[l].Sound →
    parseInbound bytes = some f → f.count = s.links[l].expected →
    f.channels = s.links[l].channels → f.piece = [] →
    (s.links[l].fill ≤ 96 → exec (.inboundFrame l bytes) s = .next (s.modLink l fun k =>
      { k with
        badRun := 0, expected := f.count + 1, fill := k.fill + 32
        slips := List.zipWith (· ++ ·) k.slips f.samples })) ∧
    (96 < s.links[l].fill → exec (.inboundFrame l bytes) s = .next (s.modLink l fun k =>
      { k with
        badRun := 0, expected := f.count + 1, fill := 128
        slips := List.zipWith (fun xs ys => xs ++ ys.take (128 - k.fill)) k.slips f.samples
        notices := k.notices ||| 0x40#8, overruns := k.overruns.bump }))

/-- R24, R25, R27: a bad frame in LOCKED: counted, any record in progress lost and counted, the count to
expect moved on. Short of the fourth in a row a block of zeros goes to each buffer, up to 128 samples, past
which it is an overrun, counted and noticed; the fourth lapses
the link, which LINK_LAPSE is: places, buffers, record, request, freeze mask and access mode go, and
receive list, masks, notices and counters stay. Below the fourth LINK_LAPSE leaves the state (log entry
1). -/
def Obligations.BadFrameAndLapse : Prop :=
  ∀ (l : Link) (bytes : List Byte) (next : Byte) (s : State), s.links[l].mode = .locked →
    s.links[l].Sound →
    (parseInbound bytes = none ∧ next = s.links[l].expected + 1 ∨
      ∃ f, parseInbound bytes = some f ∧ next = f.count + 1 ∧
        (f.count ≠ s.links[l].expected ∨ f.channels ≠ s.links[l].channels)) →
    (s.links[l].badRun < 3 →
      exec (.linkLapse l (.inboundFrame l bytes)) s = .next s ∧
      exec (.inboundFrame l bytes) s = .next (s.modLink l fun k =>
        { k with
          badFrames := k.badFrames.bump, badRun := k.badRun + 1, expected := next, assembly := none
          lostRecords := if k.assembly.isSome then k.lostRecords.bump else k.lostRecords
          fill := min 128 (k.fill + 32)
          slips := k.slips.map fun xs => (xs ++ List.replicate 32 0).take 128
          notices := if 96 < k.fill then k.notices ||| 0x40#8 else k.notices
          overruns := if 96 < k.fill then k.overruns.bump else k.overruns })) ∧
    (s.links[l].badRun = 3 →
      ∀ c ∈ [Instr.inboundFrame l bytes, .linkLapse l (.inboundFrame l bytes)],
        exec c s = .next (s.modLink l fun k =>
          { k with
            mode := .search, lockRun := 0, badRun := 0, places := [], slips := [], fill := 0
            assembly := none, request := none, freeze := 0, access := .background, expected := next
            badFrames := k.badFrames.bump, lapses := k.lapses.bump
            lostRecords := if k.assembly.isSome then k.lostRecords.bump else k.lostRecords }))

/-- R26, R27: LINK_LAPSE within a boundary is that boundary when the link is LOCKED with fewer than 32
samples left, and it then leaves the link in SEARCH with an underrun and a lapse counted; with 32 or
more it leaves the state (log entry 1). -/
def Obligations.UnderrunLapsesAtABoundary : Prop :=
  ∀ (l : Link) (within : Carrier) (s : State) (status : CaptureStatus) (t : Time)
    (v : Vector (List Sample) 16),
    MakesBoundary (carrierRow within) s status t v → s.links[l].mode = .locked →
    (s.links[l].fill < 32 →
      ∃ u : State, exec (.linkLapse l within) s = .next u ∧ exec (carrierRow within) s = .next u ∧
        u.links[l].mode = .search ∧ u.links[l].places = [] ∧ u.links[l].request = none ∧
        u.links[l].freeze = 0 ∧ u.links[l].access = .background ∧
        u.links[l].underruns = s.links[l].underruns.bump ∧
        u.links[l].lapses = s.links[l].lapses.bump) ∧
    (32 ≤ s.links[l].fill → exec (.linkLapse l within) s = .next s)

/-- R20, R23, R25: a good frame whose piece leaves no record whole ends the bad run, counts on and fills the
slip buffers (`afterGood`), and its piece goes to the record assembly. A first piece of at least four
bytes, a parameter length of at most 261 and fewer bytes than the record has begins a record; a
continuation piece that fits goes on with it; a record dropped by a new first piece, a malformed first
piece, a continuation of no record and one that does not fit are lost records. Nothing else changes. (A
frame without a piece is the subject of an earlier statement, a piece that makes a record whole that of the
next.) -/
def Obligations.PiecesMakeRecords : Prop :=
  ∀ (l : Link) (bytes : List Byte) (f : InFrame) (s : State), s.links[l].mode = .locked →
    s.links[l].Sound → parseInbound bytes = some f → f.count = s.links[l].expected →
    f.channels = s.links[l].channels → f.piece ≠ [] →
    (∀ (a b p q : Byte) (more : List Byte), f.mark = false → f.piece = a :: b :: p :: q :: more →
      p.toNat + 256 * q.toNat ≤ 261 → more.length < p.toNat + 256 * q.toNat →
      exec (.inboundFrame l bytes) s = .next (s.modLink l fun k =>
        k.afterGood f (some ⟨f.piece, 4 + (p.toNat + 256 * q.toNat)⟩)
          (if k.assembly.isSome then k.lostRecords.bump else k.lostRecords))) ∧
    (f.mark = false → (f.piece.length < 4 ∨
        261 < (f.piece.getD 2 0).toNat + 256 * (f.piece.getD 3 0).toNat ∨
        4 + (f.piece.getD 2 0).toNat + 256 * (f.piece.getD 3 0).toNat < f.piece.length) →
      exec (.inboundFrame l bytes) s = .next (s.modLink l fun k =>
        k.afterGood f none (k.lostRecords.add (if k.assembly.isSome then 2 else 1)))) ∧
    (f.mark = true → s.links[l].assembly = none →
      exec (.inboundFrame l bytes) s = .next (s.modLink l fun k =>
        k.afterGood f none k.lostRecords.bump)) ∧
    ∀ a : Assembly, f.mark = true → s.links[l].assembly = some a →
      (a.bytes.length + f.piece.length < a.total →
        exec (.inboundFrame l bytes) s = .next (s.modLink l fun k =>
          k.afterGood f (some ⟨a.bytes ++ f.piece, a.total⟩) k.lostRecords)) ∧
      (a.total < a.bytes.length + f.piece.length →
        exec (.inboundFrame l bytes) s = .next (s.modLink l fun k =>
          k.afterGood f none k.lostRecords.bump))

/-- R20, R23, R25, R28, R29, log entries 7 and 27: a good frame whose piece makes a command record whole,
as a first piece that is the record or as the continuation that ends the record in progress, is the
frame without the piece followed by that command's row. The frame without the piece ends the bad run,
counts on and fills the slip buffers up to 128, past which it is an overrun; a record in progress that a
first piece drops is a lost record. -/
def Obligations.WholeRecordIsItsRow : Prop :=
  ∀ (l : Link) (bytes record : List Byte) (f : InFrame) (c : Instr) (r : Arrival) (s : State),
    commandOf c = some r → r.link = l → r.params.length ≤ 261 →
    record = r.tag :: r.number :: (leBytes 2 r.params.length ++ r.params) →
    s.links[l].mode = .locked → s.links[l].Sound →
    parseInbound bytes = some f → f.count = s.links[l].expected →
    f.channels = s.links[l].channels →
    (f.mark = false ∧ f.piece = record ∨
      f.mark = true ∧ ∃ a, s.links[l].assembly = some a ∧ a.bytes ++ f.piece = record ∧
        a.total = record.length) →
    exec (.inboundFrame l bytes) s = exec c (s.modLink l fun k =>
      k.afterGood f none (if f.mark = false ∧ k.assembly.isSome = true then k.lostRecords.bump
        else k.lostRecords))

/-- R28, R29, R27: where a command row is turned away or waits: in SEARCH it is not taken; with four
places occupied it is discarded, counted and noticed; behind a command that executes it is queued. A
record longer than any command's is a lost record in LOCKED (log entry 18). -/
def Obligations.CommandsTurnedAway : Prop :=
  ∀ (c : Instr) (r : Arrival) (s : State), commandOf c = some r →
    (s.links[r.link].mode = .search → exec c s = .next s) ∧
    (s.links[r.link].mode = .locked → r.params.length ≤ 261 → 4 ≤ s.links[r.link].places.length →
      exec c s = .next (s.modLink r.link fun k =>
        { k with notices := k.notices ||| 0x80#8, cmdOverruns := k.cmdOverruns.bump })) ∧
    (s.links[r.link].mode = .locked → r.params.length ≤ 261 → s.links[r.link].places.length < 4 →
      s.links[r.link].places.any Place.isExecuting = true →
      exec c s = .next (s.modLink r.link fun k =>
        { k with places := k.places ++ [⟨r.tag, .queued (parseCommand r.number r.params)⟩] })) ∧
    (s.links[r.link].mode = .locked → 261 < r.params.length →
      exec c s = .next (s.modLink r.link fun k => { k with lostRecords := k.lostRecords.bump }))

/-- R17, R32, R33: a command's record names the command: reading back the number and the parameters of
any command that a record can carry gives that command, with every parameter at every value. -/
def Obligations.CommandRoundTrip : Prop :=
  ∀ c : Command, Command.canArrive c = true → parseCommand (commandNumber c) (commandParams c) = c

/-- R29, R31: a record whose number is 0 or above 32 is answered UNKNOWN COMMAND, and one whose length
is wrong MALFORMED; neither changes anything else. R34: SET BEAM of a beam above 15 is BAD ARGUMENT,
whatever the setting, and so is a setting number that is none of the 21; R35: so is a SET DEVICE setting
number that is none of its 6. None of these changes anything else. -/
def Obligations.RecordsRefused : Prop :=
  (∀ (l : Link) (tag n : Byte) (ps : List Byte) (s : State), s.Ready l → ps.length ≤ 261 →
    (n = 0 ∨ 32 < n.toNat → exec (.unknownCommand l tag n ps) s = .next (s.respond l tag 3 [])) ∧
    (0 < n.toNat → n.toNat ≤ 32 → ps.length ≠ paramLength n.toNat ps →
      exec (.unknownCommand l tag n ps) s = .next (s.respond l tag 4 []))) ∧
  (∀ (l : Link) (tag beam setting : Byte) (value : List Byte) (s : State), s.Ready l →
    value.length = 8 → setting = 0 ∨ 21 < setting.toNat →
    exec (.unknownCommand l tag 1 (beam :: setting :: value)) s = .next (s.respond l tag 2 [])) ∧
  (∀ (l : Link) (tag setting index : Byte) (value : List Byte) (s : State), s.Ready l →
    value.length = 4 → setting = 0 ∨ 6 < setting.toNat →
    exec (.unknownCommand l tag 2 (setting :: index :: value)) s = .next (s.respond l tag 2 [])) ∧
  ∀ (l : Link) (tag beam : Byte) (v : BitVec 64) (s : State), s.Ready l → 15 < beam.toNat →
    ∀ c ∈ [Instr.setBeamEnable l tag beam v, .setBeamStep l tag beam v,
      .setBeamRegularisation l tag beam v, .setBeamFarThreshold l tag beam v,
      .setBeamCoupling l tag beam v, .setBeamNearFloor l tag beam v, .setBeamEntryCount l tag beam v,
      .setBeamNormalCount l tag beam v, .setBeamHangoverCount l tag beam v,
      .setBeamDivergenceMargin l tag beam v, .setBeamDivergenceCount l tag beam v,
      .setBeamTargetRatio l tag beam v, .setBeamTrigger l tag beam v, .setBeamCaptureRatio l tag beam v,
      .setBeamCaptureCount l tag beam v, .setBeamCaptureInterval l tag beam v,
      .setBeamSuppressionGain l tag beam v, .setBeamDoubleTalkGain l tag beam v,
      .setBeamRestoreGain l tag beam v, .setBeamRampStep l tag beam v, .setBeamBeamLimit l tag beam v],
      exec c s = .next (s.respond l tag 2 [])

/-- R30: the pieces a link sends for one response are its record cut at every 60 bytes, first piece
unmarked and the rest marked; joined they are the record. -/
def Obligations.ResponsesTravelWhole : Prop :=
  ∀ (tag : Byte) (record : List Byte), 0 < record.length →
    ∀ q : List (List Byte × Bool),
      piecesOf (record.length / 60 + 2) [⟨tag, .answer record 0⟩] = q →
      (q.map Prod.fst).flatten = record ∧ q.length = (record.length + 59) / 60 ∧
      (∀ p ∈ q, 0 < p.1.length ∧ p.1.length ≤ 60) ∧
      ∀ i (h : i < q.length), (q[i]).2 = decide (0 < i)

/-! ## The path model and the page pool (04) -/

/-- R60, R61: SET WINDOW. A beam above 15, a zone above 5 or a window that is not 0 or a power of two up
to 64 is BAD ARGUMENT; a window that would leave an entry at or beyond it is WINDOW CONFLICT; else the
path's window is the one given, and nothing else changes. -/
def Obligations.SetWindow : Prop :=
  ∀ (l : Link) (tag beam zone window : Byte) (s : State), s.Ready l →
    (15 < beam.toNat ∨ 5 < zone.toNat ∨ window.toNat ∉ [0, 1, 2, 4, 8, 16, 32, 64] →
      exec (.setWindow l tag beam zone window) s = .next (s.respond l tag 2 [])) ∧
    ∀ (b : Beam) (z : Zone), beam.toNat = b.val → zone.toNat = z.val →
      window.toNat ∈ [0, 1, 2, 4, 8, 16, 32, 64] →
      ((∃ e ∈ s.segs, e.addr.beam = b ∧ e.addr.zone = z ∧ window.toNat ≤ e.addr.pos.val) →
        exec (.setWindow l tag beam zone window) s = .next (s.respond l tag 11 [])) ∧
      ((∀ e ∈ s.segs, e.addr.beam = b → e.addr.zone = z → e.addr.pos.val < window.toNat) →
        exec (.setWindow l tag beam zone window) s = .next ((s.modBeam b fun k =>
          { k with windows := k.windows.set z window.toNat }).respond l tag 0 []))

/-- R66, R65: the pages an allocation takes: n free pages, ascending, with no free page passed over. -/
def Obligations.LowestFreePages : Prop :=
  ∀ (n : Nat) (s : State), s.PoolSound → n ≤ s.freeCount →
    (s.lowestFree n).length = n ∧ (s.lowestFree n).Pairwise (· < ·) ∧
    (∀ p ∈ s.lowestFree n, s.role p = .free) ∧
    ∀ (p q : Page), q ∈ s.lowestFree n → p < q → s.role p = .free → p ∈ s.lowestFree n

/-- R71: the refusals of MAP SEGMENTS, in the order of its six checks. A refusal by OVER LIMIT or POOL
SHORT is counted, and nothing else changes. -/
def Obligations.MapRefusals : Prop :=
  ∀ (l : Link) (tag beam zone first count : Byte) (s : State), s.Ready l →
    (15 < beam.toNat ∨ 5 < zone.toNat ∨ count = 0 →
      exec (.mapSegments l tag beam zone first count) s = .next (s.respond l tag 2 [])) ∧
    ∀ (b : Beam) (z : Zone), beam.toNat = b.val → zone.toNat = z.val → count ≠ 0 →
      (s.beams[b].windows[z] < first.toNat + count.toNat →
        exec (.mapSegments l tag beam zone first count) s = .next (s.respond l tag 2 [])) ∧
      (first.toNat + count.toNat ≤ s.beams[b].windows[z] →
        (s.modelState b ≠ .idle →
          exec (.mapSegments l tag beam zone first count) s = .next (s.respond l tag 5 [])) ∧
        (s.modelState b = .idle →
          ((∃ e ∈ s.segs, e.addr.within b z first.toNat count.toNat = true) →
            exec (.mapSegments l tag beam zone first count) s = .next (s.respond l tag 5 [])) ∧
          ((∀ e ∈ s.segs, e.addr.within b z first.toNat count.toNat = false) →
            (s.beams[b].enable = true → 1024 < s.activeCount + count.toNat →
              exec (.mapSegments l tag beam zone first count) s = .next ((s.modPool fun k =>
                { k with overLimit := k.overLimit.bump }).respond l tag 7 [])) ∧
            (s.beams[b].enable = false ∨ s.activeCount + count.toNat ≤ 1024 →
              (s.freeCount < (if s.beams[b].anchoring then 2 * count.toNat else count.toNat) →
                exec (.mapSegments l tag beam zone first count) s = .next ((s.modPool fun k =>
                  { k with shortRefusals := k.shortRefusals.bump }).respond l tag 6 [])) ∧
              ((if s.beams[b].anchoring then 2 * count.toNat else count.toNat) ≤ s.freeCount →
                16 ≤ s.commandJobs →
                exec (.mapSegments l tag beam zone first count) s =
                  .next (s.respond l tag 8 []))))))

/-- R72, R68, R147: an accepted MAP SEGMENTS makes the entries of its range CLEARING with the lowest
free pages in order, clears the pages' written marks, makes the anchor INVALID, raises POOL LOW when
fewer than 256 pages are left, and lists a ZERO job of the range; no other entry, no memory and no
setting changes. (The head of the job list has work left, R151, as `JobsSound` says and every step
keeps.) -/
def Obligations.MapSegments : Prop :=
  ∀ (l : Link) (tag beam zone first count : Byte) (b : Beam) (z : Zone) (need : Nat) (s : State),
    s.Ready l → s.PoolSound → beam.toNat = b.val → zone.toNat = z.val → count ≠ 0 →
    first.toNat + count.toNat ≤ s.beams[b].windows[z] → s.beams[b].windows[z] ≤ 64 →
    s.modelState b = .idle → (∀ e ∈ s.segs, e.addr.within b z first.toNat count.toNat = false) →
    (s.beams[b].enable = false ∨ s.activeCount + count.toNat ≤ 1024) →
    need = (if s.beams[b].anchoring then 2 * count.toNat else count.toNat) → need ≤ s.freeCount →
    s.commandJobs < 16 → (∀ j, s.jobs.head? = some j → s.hasWork j = true) →
    ∃ u : State, exec (.mapSegments l tag beam zone first count) s = .next (u.respond l tag 0 []) ∧
      u = { s with segs := u.segs, pool := u.pool, beams := u.beams, links := u.links, jobs := u.jobs } ∧
      (∀ p : Pos, first.toNat ≤ p.val → p.val < first.toNat + count.toNat →
        ∃ e, u.seg? ⟨b, z, p⟩ = some e ∧ e.addr = ⟨b, z, p⟩ ∧ e.state = .clearing ∧
          e.pinned = false ∧ e.damaged = false ∧
          some e.page = (s.lowestFree need)[p.val - first.toNat]? ∧
          e.anchor = (if s.beams[b].anchoring
            then (s.lowestFree need)[count.toNat + (p.val - first.toNat)]? else none)) ∧
      (∀ a : SegAddr, a.within b z first.toNat count.toNat = false → u.seg? a = s.seg? a) ∧
      (∀ p : Page, u.pool.written.getLsbD p.val =
        (s.pool.written.getLsbD p.val && !decide (p ∈ s.lowestFree need))) ∧
      (∀ c : Beam, u.beams[c] = if c = b
        then { s.beams[b] with anchor := { s.beams[b].anchor with valid := false } }
        else s.beams[c]) ∧
      u.jobs = s.jobs ++ [.zero b z (positions first.toNat count.toNat) 0 l] ∧
      (s.freeCount - need < 256 →
        (∀ m : Link, u.links[m] = { s.links[m] with notices := s.links[m].notices ||| 0x20#8 }) ∧
        u.pool.lowRaises = s.pool.lowRaises.bump) ∧
      (256 ≤ s.freeCount - need → u.links = s.links ∧ u.pool.lowRaises = s.pool.lowRaises) ∧
      u.pool.shortRefusals = s.pool.shortRefusals ∧ u.pool.overLimit = s.pool.overLimit

/-- R74, R75, R172: UNMAP SEGMENTS, its refusals, and what an accepted one releases: the MAPPED entries
of the range, with the repair-list entries of their pages. Nothing else changes. -/
def Obligations.UnmapSegments : Prop :=
  ∀ (l : Link) (tag beam zone first count : Byte) (s : State), s.Ready l →
    (15 < beam.toNat ∨ 5 < zone.toNat ∨ 63 < first.toNat ∨ count = 0 ∨
        64 < first.toNat + count.toNat →
      exec (.unmapSegments l tag beam zone first count) s = .next (s.respond l tag 2 [])) ∧
    ∀ (b : Beam) (z : Zone), beam.toNat = b.val → zone.toNat = z.val → first.toNat ≤ 63 → count ≠ 0 →
      first.toNat + count.toNat ≤ 64 →
      (s.laneOf b ≠ none ∨ s.hasMaskingJob b = true ∨
          (∃ e ∈ s.segs, e.addr.within b z first.toNat count.toNat = true ∧ e.state = .clearing) ∨
          (∃ (m : Link) (r : StoreRequest), s.links[m].request = some r ∧
            r.addr.within b z first.toNat count.toNat = true) →
        exec (.unmapSegments l tag beam zone first count) s = .next (s.respond l tag 5 [])) ∧
      (s.laneOf b = none → s.hasMaskingJob b = false →
        (∀ e ∈ s.segs, e.addr.within b z first.toNat count.toNat = true → e.state = .mapped) →
        (∀ (m : Link) (r : StoreRequest), s.links[m].request = some r →
          r.addr.within b z first.toNat count.toNat = false) →
        exec (.unmapSegments l tag beam zone first count) s =
          .next (((s.setSegs (s.segs.filter fun e =>
              !e.addr.within b z first.toNat count.toNat)).modPort fun k =>
            { k with
              repairs := k.repairs.filter fun r => s.segs.all fun e =>
                !e.addr.within b z first.toNat count.toNat
                  || (e.page != r.page && e.anchor != some r.page) }).respond l tag 0 []))

/-- R76, R128: PIN SEGMENTS sets the pinned flag of the range's entries and withdraws their ungranted
demand; UNPIN SEGMENTS clears the flag. Both refuse the ranges UNMAP SEGMENTS refuses. Nothing else
changes. -/
def Obligations.PinAndUnpin : Prop :=
  ∀ (l : Link) (tag beam zone first count : Byte) (s : State), s.Ready l →
    (15 < beam.toNat ∨ 5 < zone.toNat ∨ 63 < first.toNat ∨ count = 0 ∨
        64 < first.toNat + count.toNat →
      exec (.pinSegments l tag beam zone first count) s = .next (s.respond l tag 2 []) ∧
      exec (.unpinSegments l tag beam zone first count) s = .next (s.respond l tag 2 [])) ∧
    ∀ (b : Beam) (z : Zone), beam.toNat = b.val → zone.toNat = z.val → first.toNat ≤ 63 → count ≠ 0 →
      first.toNat + count.toNat ≤ 64 →
      exec (.pinSegments l tag beam zone first count) s =
        .next (((s.setSegs (s.segs.map fun e =>
            if e.addr.within b z first.toNat count.toNat then { e with pinned := true } else e)).modSched
          fun k =>
            { k with
              demand := k.demand.filter fun d =>
                !d.addr.within b z first.toNat count.toNat }).respond l tag 0 []) ∧
      exec (.unpinSegments l tag beam zone first count) s =
        .next ((s.setSegs (s.segs.map fun e =>
          if e.addr.within b z first.toNat count.toNat then { e with pinned := false }
          else e)).respond l tag 0 [])

/-- R77, R78, R172: SET ANCHORING. Bad operands are refused; the value already held changes nothing; a
beam with a listed job is busy; turning on needs a free page for each entry, refused and counted by
POOL SHORT. Turning on gives each entry of the beam, in order, the next lowest free page with its mark
clear; turning off releases the anchor pages with their repair-list entries; either makes the anchor
INVALID. No other entry and no memory changes. -/
def Obligations.SetAnchoring : Prop :=
  ∀ (l : Link) (tag beam mode : Byte) (s : State), s.Ready l →
    (15 < beam.toNat ∨ 1 < mode.toNat →
      exec (.setAnchoring l tag beam mode) s = .next (s.respond l tag 2 [])) ∧
    ∀ b : Beam, beam.toNat = b.val →
      (mode = 0 ∧ s.beams[b].anchoring = false ∨ mode = 1 ∧ s.beams[b].anchoring = true →
        exec (.setAnchoring l tag beam mode) s = .next (s.respond l tag 0 [])) ∧
      (mode = 0 ∧ s.beams[b].anchoring = true ∨ mode = 1 ∧ s.beams[b].anchoring = false →
        (∃ j ∈ s.jobs, j.beam = b) →
        exec (.setAnchoring l tag beam mode) s = .next (s.respond l tag 5 [])) ∧
      ((∀ j ∈ s.jobs, j.beam ≠ b) →
        (mode = 0 → s.beams[b].anchoring = true →
          exec (.setAnchoring l tag beam mode) s =
            .next ((((s.setSegs (s.segs.map fun e =>
                if e.addr.beam = b then { e with anchor := none } else e)).modPort fun k =>
              { k with
                repairs := k.repairs.filter fun r => s.segs.all fun e =>
                  e.addr.beam != b || e.anchor != some r.page }).modBeam b fun k =>
                { k with anchoring := false, anchor := { k.anchor with valid := false } }).respond l
                  tag 0 [])) ∧
        (mode = 1 → s.beams[b].anchoring = false →
          (s.freeCount < (s.segsOf b).length →
            exec (.setAnchoring l tag beam mode) s = .next ((s.modPool fun k =>
              { k with shortRefusals := k.shortRefusals.bump }).respond l tag 6 [])) ∧
          (s.PoolSound → (s.segsOf b).length ≤ s.freeCount →
            ∃ u : State, exec (.setAnchoring l tag beam mode) s = .next (u.respond l tag 0 []) ∧
              u = { s with segs := u.segs, pool := u.pool, beams := u.beams, links := u.links } ∧
              u.segs.map (fun e => { e with anchor := none })
                = s.segs.map (fun e => { e with anchor := none }) ∧
              (u.segsOf b).map (·.anchor) = (s.lowestFree (s.segsOf b).length).map some ∧
              (∀ e : Segment, e.addr.beam ≠ b → (e ∈ u.segs ↔ e ∈ s.segs)) ∧
              (∀ c : Beam, u.beams[c] = if c = b
                then { s.beams[b] with
                  anchoring := true, anchor := { s.beams[b].anchor with valid := false } }
                else s.beams[c]) ∧
              (∀ p : Page, u.pool.written.getLsbD p.val = (s.pool.written.getLsbD p.val
                && !decide (p ∈ s.lowestFree (s.segsOf b).length))) ∧
              (0 < (s.segsOf b).length → s.freeCount - (s.segsOf b).length < 256 →
                (∀ m : Link, u.links[m] =
                  { s.links[m] with notices := s.links[m].notices ||| 0x20#8 }) ∧
                u.pool.lowRaises = s.pool.lowRaises.bump) ∧
              ((s.segsOf b).length = 0 ∨ 256 ≤ s.freeCount - (s.segsOf b).length →
                u.links = s.links ∧ u.pool.lowRaises = s.pool.lowRaises))))

/-! ## Jobs (09) -/

/-- R155, R157, R158, R160: the refusals of the four job commands, in the order of their checks. A
refused command changes nothing else. R147, R148, R132, R109, R153, R155, R157, R158, R160: an accepted
job command abandons the beam's pass and lists its job, a CAPTURE or FILL at the end and a RESTORE or
CLEAR after the last job of those two kinds; a CAPTURE makes the anchor INVALID; a CAPTURE, RESTORE or
CLEAR is noted for the capture run (log entry 26). (The head of the list has work left, R151, as
`JobsSound` says and every step keeps.) A job with no page to work on is listed behind another job all the same. R151, R37, R115, R153: one
that would be the head completes at once and is not listed, with JOB DONE raised in the issuing link: a
CAPTURE makes the anchor VALID at the current block, counted, with ANCHOR TAKEN in all links; a RESTORE
or CLEAR sets the latch and ends the divergence run; a FILL sets the latch. Nothing else changes. -/
def Obligations.JobCommands : Prop :=
  (∀ (l : Link) (tag beam zone first count : Byte) (value : Coef) (s : State), s.Ready l →
    (15 < beam.toNat →
      exec (.checkpointBeam l tag beam) s = .next (s.respond l tag 2 []) ∧
      exec (.restoreBeam l tag beam) s = .next (s.respond l tag 2 []) ∧
      exec (.clearBeam l tag beam) s = .next (s.respond l tag 2 [])) ∧
    (15 < beam.toNat ∨ 5 < zone.toNat ∨ 63 < first.toNat ∨ count = 0 ∨
        64 < first.toNat + count.toNat →
      exec (.fillSegments l tag beam zone first count value) s = .next (s.respond l tag 2 [])) ∧
    (beam.toNat ≤ 15 → zone.toNat ≤ 5 → first.toNat ≤ 63 → count ≠ 0 →
      first.toNat + count.toNat ≤ 64 → 16 ≤ s.commandJobs →
      exec (.fillSegments l tag beam zone first count value) s = .next (s.respond l tag 8 [])) ∧
    ∀ b : Beam, beam.toNat = b.val →
      (s.beams[b].anchoring = false →
        exec (.checkpointBeam l tag beam) s = .next (s.respond l tag 10 [])) ∧
      (s.beams[b].anchoring = true → s.hasJob b = true →
        exec (.checkpointBeam l tag beam) s = .next (s.respond l tag 5 [])) ∧
      (s.beams[b].anchoring = true → s.hasJob b = false → 16 ≤ s.commandJobs →
        exec (.checkpointBeam l tag beam) s = .next (s.respond l tag 8 [])) ∧
      (s.hasCopyJob b = true →
        exec (.restoreBeam l tag beam) s = .next (s.respond l tag 5 []) ∧
        exec (.clearBeam l tag beam) s = .next (s.respond l tag 5 [])) ∧
      (s.hasCopyJob b = false → s.beams[b].anchor.valid = false →
        exec (.restoreBeam l tag beam) s = .next (s.respond l tag 10 [])) ∧
      (s.hasCopyJob b = false → s.beams[b].anchor.valid = true → 16 ≤ s.commandJobs →
        exec (.restoreBeam l tag beam) s = .next (s.respond l tag 8 [])) ∧
      (s.hasCopyJob b = false → 16 ≤ s.commandJobs →
        exec (.clearBeam l tag beam) s = .next (s.respond l tag 8 []))) ∧
  ∀ (l : Link) (tag beam : Byte) (b : Beam) (s : State), s.Ready l → beam.toNat = b.val →
    (∀ j, s.jobs.head? = some j → s.hasWork j = true) → s.commandJobs < 16 →
    (s.beams[b].anchoring = true → s.hasJob b = false →
      (s.jobs ≠ [] ∨ (∃ e ∈ s.segs, e.addr.beam = b ∧ e.state = .mapped ∧ e.anchor.isSome = true) →
        exec (.checkpointBeam l tag beam) s =
          .next ((((s.abandonPass b).modBeam b fun k =>
            { k with
              anchor := { k.anchor with valid := false }
              talk := { k.talk with copyQueued := true } }).setJobs
              (s.jobs ++ [.capture b (.command l) 0 false])).respond l tag 0 [])) ∧
      (s.jobs = [] → (∀ e ∈ s.segs, e.addr.beam = b → e.state = .mapped → e.anchor = none) →
        exec (.checkpointBeam l tag beam) s =
          .next (((((s.abandonPass b).modBeam b fun k =>
            { k with
              anchor := { k.anchor with
                valid := true, block := s.timer.block, captures := k.anchor.captures.bump }
              talk := { k.talk with copyQueued := true } }).mapLinks fun k =>
              { k with notices := k.notices ||| 0x04#8 }).modLink l fun k =>
              { k with notices := k.notices ||| 0x02#8 }).respond l tag 0 []))) ∧
    (s.hasCopyJob b = false → s.beams[b].anchor.valid = true →
      ((∃ j, s.jobs.head? = some j ∧ j.isRestoreClass = true) ∨
          (∃ e ∈ s.segs, e.addr.beam = b ∧ e.state = .mapped ∧ e.anchor.isSome = true) →
        exec (.restoreBeam l tag beam) s =
          .next ((((s.abandonPass b).modBeam b fun k =>
            { k with talk := { k.talk with copyQueued := true } }).setJobs
              (s.jobs.takeWhile Job.isRestoreClass
                ++ .restore b (.command l) 0 false :: s.jobs.dropWhile Job.isRestoreClass)).respond l
                  tag 0 [])) ∧
      ((∀ j, s.jobs.head? = some j → j.isRestoreClass = false) →
        (∀ e ∈ s.segs, e.addr.beam = b → e.state = .mapped → e.anchor = none) →
        exec (.restoreBeam l tag beam) s =
          .next ((((s.abandonPass b).modBeam b fun k =>
            { k with
              latch := true
              talk := { k.talk with divergenceRun := 0, copyQueued := true } }).modLink l fun k =>
              { k with notices := k.notices ||| 0x02#8 }).respond l tag 0 []))) ∧
    (s.hasCopyJob b = false →
      ((∃ j, s.jobs.head? = some j ∧ j.isRestoreClass = true) ∨
          (∃ e ∈ s.segs, e.addr.beam = b ∧ e.state = .mapped) →
        exec (.clearBeam l tag beam) s =
          .next ((((s.abandonPass b).modBeam b fun k =>
            { k with talk := { k.talk with copyQueued := true } }).setJobs
              (s.jobs.takeWhile Job.isRestoreClass
                ++ .clear b (.command l) 0 :: s.jobs.dropWhile Job.isRestoreClass)).respond l
                  tag 0 [])) ∧
      ((∀ j, s.jobs.head? = some j → j.isRestoreClass = false) →
        (∀ e ∈ s.segs, e.addr.beam = b → e.state = .clearing) →
        exec (.clearBeam l tag beam) s =
          .next ((((s.abandonPass b).modBeam b fun k =>
            { k with
              latch := true
              talk := { k.talk with divergenceRun := 0, copyQueued := true } }).modLink l fun k =>
              { k with notices := k.notices ||| 0x02#8 }).respond l tag 0 []))) ∧
    ∀ (zone first count : Byte) (z : Zone) (f h : Pos) (value : Coef), zone.toNat = z.val →
      first.toNat = f.val → count ≠ 0 → first.toNat + count.toNat = h.val + 1 →
      (s.jobs ≠ [] ∨
          (∃ e ∈ s.segs, e.addr.within b z first.toNat count.toNat = true ∧ e.state = .mapped) →
        exec (.fillSegments l tag beam zone first count value) s =
          .next (((s.abandonPass b).setJobs
            (s.jobs ++ [.fill b z f h value f.val l])).respond l tag 0 [])) ∧
      (s.jobs = [] →
        (∀ e ∈ s.segs, e.addr.within b z first.toNat count.toNat = true → e.state = .clearing) →
        exec (.fillSegments l tag beam zone first count value) s =
          .next ((((s.abandonPass b).modBeam b fun k => { k with latch := true }).modLink l fun k =>
            { k with notices := k.notices ||| 0x02#8 }).respond l tag 0 []))

/-! ## Client access to coefficients (11) -/

/-- R182, R183, R29: READ and WRITE COEFFICIENTS, their refusals: BAD ARGUMENT for a beam, zone,
position or range that is none, NOT MAPPED, for a write BEAM BUSY while a CAPTURE, RESTORE, CLEAR or
FILL of the beam is listed, and MALFORMED for values that are not as many as the count. Nothing else
changes. R182, R183, R184, R128: an accepted READ or WRITE COEFFICIENTS stays EXECUTING with its
request in the link's place of the store request queue; a write withdraws its beam's ungranted demand.
Nothing else changes. -/
def Obligations.StoreCommands : Prop :=
  (∀ (l : Link) (tag beam zone pos first count : Byte) (values : List Coef) (s : State), s.Ready l →
    values.length ≤ 64 →
    (values.length ≠ count.toNat →
      exec (.writeCoefficients l tag beam zone pos first count values) s =
        .next (s.respond l tag 4 [])) ∧
    (15 < beam.toNat ∨ 5 < zone.toNat ∨ 63 < pos.toNat ∨ count = 0 ∨ 64 < count.toNat ∨
        256 < first.toNat + count.toNat →
      exec (.readCoefficients l tag beam zone pos first count) s = .next (s.respond l tag 2 []) ∧
      (values.length = count.toNat →
        exec (.writeCoefficients l tag beam zone pos first count values) s =
          .next (s.respond l tag 2 []))) ∧
    ∀ (b : Beam) (z : Zone) (p : Pos), beam.toNat = b.val → zone.toNat = z.val → pos.toNat = p.val →
      count ≠ 0 → count.toNat ≤ 64 → first.toNat + count.toNat ≤ 256 →
      ((∀ e, s.seg? ⟨b, z, p⟩ = some e → e.state = .clearing) →
        exec (.readCoefficients l tag beam zone pos first count) s = .next (s.respond l tag 9 []) ∧
        (values.length = count.toNat →
          exec (.writeCoefficients l tag beam zone pos first count values) s =
            .next (s.respond l tag 9 []))) ∧
      ∀ e, s.seg? ⟨b, z, p⟩ = some e → e.state = .mapped → values.length = count.toNat →
        s.hasMaskingJob b = true →
        exec (.writeCoefficients l tag beam zone pos first count values) s =
          .next (s.respond l tag 5 [])) ∧
  ∀ (l : Link) (tag beam zone pos first count : Byte) (b : Beam) (z : Zone) (p : Pos) (e : Segment)
    (values : List Coef) (s : State), s.Ready l → beam.toNat = b.val → zone.toNat = z.val →
    pos.toNat = p.val → count ≠ 0 → count.toNat ≤ 64 → first.toNat + count.toNat ≤ 256 →
    s.seg? ⟨b, z, p⟩ = some e → e.state = .mapped →
    exec (.readCoefficients l tag beam zone pos first count) s =
      .next ((s.execute l tag (.readCoefficients beam zone pos first count)).modLink l fun k =>
        { k with request := some ⟨.read, ⟨b, z, p⟩, first.toNat, count.toNat⟩ }) ∧
    (values.length = count.toNat → s.hasMaskingJob b = false →
      exec (.writeCoefficients l tag beam zone pos first count values) s =
        .next (((s.execute l tag (.writeCoefficients beam zone pos first values)).modLink l fun k =>
          { k with request := some ⟨.write values, ⟨b, z, p⟩, first.toNat, count.toNat⟩ }).modSched
            fun k => { k with demand := k.demand.filter fun d => d.addr.beam != b }))


/-! ## Queries -/

/-- R15, R14, R44, R180, R179, R33: QUERY TIMER, QUERY LINK and QUERY MEMORY answer DONE with the record
of their chapter as it stands, and with clear option 1 clear their counters (for the port, its error
record too) after it; any other clear option is BAD ARGUMENT. Nothing else changes. -/
def Obligations.TimerLinkMemoryQueries : Prop :=
  ∀ (l : Link) (tag clear : Byte) (s : State), s.Ready l →
    (1 < clear.toNat →
      exec (.queryTimer l tag clear) s = .next (s.respond l tag 2 []) ∧
      exec (.queryLink l tag clear) s = .next (s.respond l tag 2 []) ∧
      exec (.queryMemory l tag clear) s = .next (s.respond l tag 2 [])) ∧
    (∃ r : List Byte,
      exec (.queryTimer l tag 0) s = .next (s.respond l tag 0 r) ∧
      exec (.queryTimer l tag 1) s = .next ((s.modTimer fun k =>
        { k with
          badFrames := 0, earlyFrames := 0, watchExpiries := 0, holdoverEntries := 0
          relocks := 0 }).respond l tag 0 r) ∧
      r.length = 19 ∧ (field r 0 1 = 0 ↔ s.timer.mode = .holdover) ∧ field r 0 1 ≤ 1 ∧
      field r 1 4 = s.timer.block.toNat ∧ field r 5 1 = s.timer.goodRun % 256 ∧
      field r 6 1 = s.timer.badRun % 256 ∧ field r 7 1 = s.timer.lockCount % 256 ∧
      (field r 8 1 = 0 ↔ s.timer.status = .good) ∧ (field r 8 1 = 1 ↔ s.timer.status = .badFrame) ∧
      (field r 8 1 = 2 ↔ s.timer.status = .holdover) ∧
      field r 9 2 = s.timer.badFrames.toNat ∧ field r 11 2 = s.timer.earlyFrames.toNat ∧
      field r 13 2 = s.timer.watchExpiries.toNat ∧ field r 15 2 = s.timer.holdoverEntries.toNat ∧
      field r 17 2 = s.timer.relocks.toNat) ∧
    (∃ r : List Byte,
      exec (.queryLink l tag 0) s = .next (s.respond l tag 0 r) ∧
      exec (.queryLink l tag 1) s = .next ((s.modLink l fun k =>
        { k with
          badFrames := 0, overruns := 0, slipDrops := 0, repeats := 0, underruns := 0
          cmdOverruns := 0, lostRecords := 0, lapses := 0 }).respond l tag 0 r) ∧
      r.length = 29 + s.links[l].receive.length ∧
      field r 0 1 = l.val ∧ field r 1 1 = 1 ∧ field r 2 1 = s.links[l].channels % 256 ∧
      field r 3 1 = s.links[l].fill % 256 ∧ field r 4 1 = s.links[l].badRun % 256 ∧
      field r 5 1 = s.links[l].expected.toNat ∧ field r 6 1 = s.links[l].places.length + 1 ∧
      field r 7 1 = s.links[l].notices.toNat ∧ field r 8 1 = s.links[l].mask.toNat ∧
      field r 9 2 = s.links[l].freeze.toNat ∧ (field r 11 1 = 1 ↔ s.links[l].access = .priority) ∧
      field r 11 1 ≤ 1 ∧ field r 12 1 = s.links[l].receive.length % 256 ∧
      (r.drop 13).take s.links[l].receive.length = s.links[l].receive.map (BitVec.ofNat 8 ·.val) ∧
      ∀ n, n = 13 + s.links[l].receive.length →
        field r n 2 = s.links[l].badFrames.toNat ∧
        field r (n + 2) 2 = s.links[l].overruns.toNat ∧
        field r (n + 4) 2 = s.links[l].slipDrops.toNat ∧
        field r (n + 6) 2 = s.links[l].repeats.toNat ∧
        field r (n + 8) 2 = s.links[l].underruns.toNat ∧
        field r (n + 10) 2 = s.links[l].cmdOverruns.toNat ∧
        field r (n + 12) 2 = s.links[l].lostRecords.toNat ∧
        field r (n + 14) 2 = s.links[l].lapses.toNat) ∧
    ∃ r : List Byte,
      exec (.queryMemory l tag 0) s = .next (s.respond l tag 0 r) ∧
      exec (.queryMemory l tag 1) s = .next ((s.modPort fun k =>
        { k with
          singleBit := 0, uncorrectable := 0, last := none, repairsWritten := 0, notKept := 0
          scrubRounds := 0 }).respond l tag 0 r) ∧
      r.length = 36 ∧ field r 0 2 = s.port.singleBit.toNat ∧
      field r 2 2 = s.port.uncorrectable.toNat ∧
      (s.port.last = none → field r 4 9 = 0) ∧
      (∀ b, s.port.last = some b → field r 4 1 = 1 ∧ field r 5 2 = b.page.val ∧
        field r 7 1 = b.word % 256 ∧ field r 8 4 = b.block.toNat ∧
        (field r 12 1 = 0 ↔ b.reader = .estimator) ∧ (field r 12 1 = 1 ↔ b.reader = .copy) ∧
        (field r 12 1 = 2 ↔ b.reader = .store) ∧ (field r 12 1 = 3 ↔ b.reader = .scrub)) ∧
      field r 13 1 = s.port.repairs.length % 256 ∧ field r 14 2 = s.port.repairsWritten.toNat ∧
      field r 16 2 = s.port.notKept.toNat ∧ field r 18 2 = s.port.scrubPos % 65536 ∧
      field r 20 2 = s.port.scrubRounds.toNat ∧ field r 22 1 = s.port.share % 256 ∧
      field r 23 4 = s.port.latestBlock.toNat ∧
      field r 27 2 = s.port.latest.segmentReads % 65536 ∧
      field r 29 2 = s.port.latest.store % 65536 ∧ field r 31 2 = s.port.latest.copy % 65536 ∧
      field r 33 2 = s.port.latest.adaptation % 65536 ∧ field r 35 1 = s.port.latest.scrub % 256

/-- R80, R134, R194, R97, R114, R163, R79, R33: QUERY POOL, QUERY SCHEDULER, QUERY BEAM and QUERY PATH:
their refusals, what a clear option of 1 clears, the lengths of their records and the fields named here.
(QUERY SCHEDULER draws the free fields of free lanes, log entry 11.) Nothing else changes. -/
def Obligations.PoolSchedulerBeamPathQueries : Prop :=
  ∀ (l : Link) (tag clear beam zone first : Byte) (s : State), s.Ready l →
    (1 < clear.toNat →
      exec (.queryPool l tag clear) s = .next (s.respond l tag 2 []) ∧
      exec (.queryBeam l tag beam clear) s = .next (s.respond l tag 2 []) ∧
      exec (.queryScheduler l tag clear) s =
        .next (State.respond l tag 2 [] { s with draws := s.draws + 1 })) ∧
    (15 < beam.toNat → exec (.queryBeam l tag beam clear) s = .next (s.respond l tag 2 [])) ∧
    (15 < beam.toNat ∨ 5 < zone.toNat ∨ 63 < first.toNat →
      exec (.queryPath l tag beam zone first) s = .next (s.respond l tag 2 [])) ∧
    (∃ r : List Byte,
      exec (.queryPool l tag 0) s = .next (s.respond l tag 0 r) ∧
      exec (.queryPool l tag 1) s = .next ((s.modPool fun k =>
        { k with lowRaises := 0, shortRefusals := 0, overLimit := 0 }).respond l tag 0 r) ∧
      r.length = 56 ∧ field r 0 2 = s.freeCount ∧ field r 4 2 = s.segs.length % 65536 ∧
      field r 14 2 = s.activeCount % 65536 ∧
      (∀ b : Beam, (field r 16 2).testBit b.val = s.beams[b].enable ∧
        field r (18 + 2 * b.val) 2 = (s.segsOf b).length % 65536) ∧
      field r 50 2 = s.pool.lowRaises.toNat ∧ field r 52 2 = s.pool.shortRefusals.toNat ∧
      field r 54 2 = s.pool.overLimit.toNat) ∧
    (∃ r : List Byte,
      exec (.queryScheduler l tag 0) s =
        .next (State.respond l tag 0 r { s with draws := s.draws + 1 }) ∧
      (∃ u : State, exec (.queryScheduler l tag 1) s = .next (u.respond l tag 0 r) ∧
        u = { s with
          draws := s.draws + 1
          sched := { s.sched with holdAbandons := 0, abandons := 0 }
          beams := u.beams } ∧
        ∀ b : Beam, u.beams[b] = { s.beams[b] with passes := 0 }) ∧
      r.length = 108 ∧
      (∀ b : Beam,
        (field r 0 2).testBit b.val = (s.beams[b].requests && (s.laneOf b).isNone) ∧
        (field r 2 2).testBit b.val = s.masked b ∧
        (field r 4 2).testBit b.val = (s.laneOf b).isSome ∧
        (field r 8 2).testBit b.val = s.beams[b].latch ∧
        (field r 10 2).testBit b.val = (s.beams[b].set.trigger == .latched) ∧
        field r (72 + 2 * b.val) 2 = s.beams[b].passes.toNat) ∧
      (field r 12 1 = 1 ↔ s.sched.rotation = .fixed) ∧ field r 13 1 = s.sched.bottom.val ∧
      field r 14 2 = s.sched.holdLimit % 65536 ∧ field r 16 4 = s.sched.demandBlock.toNat ∧
      field r 20 2 = s.sched.listed % 65536 ∧ field r 22 2 = s.sched.granted % 65536 ∧
      (∀ (n : LaneNo) (p : Pass), s.sched.lanes[n] = some p →
        field r (24 + 12 * n.val) 1 = p.beam.val ∧
        field r (28 + 12 * n.val) 2 = p.age % 65536 ∧
        field r (30 + 12 * n.val) 2 = p.updated % 65536 ∧
        field r (32 + 12 * n.val) 4 = p.grant.toNat) ∧
      (∀ n : LaneNo, s.sched.lanes[n] = none → field r (24 + 12 * n.val) 3 = 16777215) ∧
      field r 104 2 = s.sched.holdAbandons.toNat ∧ field r 106 2 = s.sched.abandons.toNat) ∧
    ∀ b : Beam, beam.toNat = b.val →
      (∃ r : List Byte,
        exec (.queryBeam l tag beam 0) s = .next (s.respond l tag 0 r) ∧
        exec (.queryBeam l tag beam 1) s = .next ((s.modBeam b fun k =>
          { k with
            out := { k.out with clamps := 0 }
            est := { k.est with estSats := 0, errSats := 0, uncorrectable := 0 }
            talk := { k.talk with divergences := 0 }
            anchor := { k.anchor with captures := 0, aborted := 0 } }).respond l tag 0 r) ∧
        r.length = 150 ∧ field r 0 1 = b.val ∧ (field r 1 1 = 1 ↔ s.beams[b].enable = true) ∧
        (field r 2 1 = 1 ↔ s.beams[b].anchoring = true) ∧ field r 3 1 = s.beams[b].set.mu % 256 ∧
        field r 9 2 = s.beams[b].out.applied % 65536 ∧
        field r 25 2 = s.beams[b].out.clamps.toNat ∧
        field r 27 4 = s.beams[b].est.block.toNat ∧
        field r 59 8 = s.beams[b].est.pd % 2 ^ 64 ∧ field r 75 8 = s.beams[b].est.pe % 2 ^ 64 ∧
        field r 83 8 = s.beams[b].est.normaliser % 2 ^ 64 ∧
        (field r 105 1 = 0 ↔ s.beams[b].talk.state = .quiet) ∧
        (field r 105 1 = 1 ↔ s.beams[b].talk.state = .farOnly) ∧
        (field r 105 1 = 2 ↔ s.beams[b].talk.state = .nearOnly) ∧
        field r 134 2 = s.beams[b].talk.divergences.toNat ∧
        (field r 136 1 = 0 ↔ s.modelState b = .idle) ∧
        (field r 137 1 = 1 ↔ s.beams[b].anchor.valid = true) ∧
        field r 138 4 = s.beams[b].anchor.block.toNat ∧
        field r 142 2 = s.beams[b].anchor.captures.toNat ∧
        field r 144 2 = s.beams[b].anchor.aborted.toNat) ∧
      ∀ (z : Zone) (p : Pos), zone.toNat = z.val → first.toNat = p.val →
        ∃ r : List Byte, exec (.queryPath l tag beam zone first) s = .next (s.respond l tag 0 r) ∧
          r.length = 27 + 7 * min 32 (64 - p.val) ∧ field r 0 1 = b.val ∧ field r 1 1 = z.val ∧
          field r 2 1 = s.beams[b].windows[z] % 256 ∧ field r 5 1 = p.val ∧
          field r 11 8 = s.zones[z].px % 2 ^ 64 ∧
          ∀ q : Pos, p ≤ q → q.val < p.val + 32 →
            (s.seg? ⟨b, z, q⟩ = none → field r (27 + 7 * (q.val - p.val)) 5 = 1099511627520) ∧
            ∀ e, s.seg? ⟨b, z, q⟩ = some e →
              (field r (27 + 7 * (q.val - p.val)) 1 = if e.state = .mapped then 2 else 1) ∧
              field r (28 + 7 * (q.val - p.val)) 2 = e.page.val ∧
              (∀ g, e.anchor = some g → field r (30 + 7 * (q.val - p.val)) 2 = g.val) ∧
              (e.anchor = none → field r (30 + 7 * (q.val - p.val)) 2 = 65535) ∧
              (field r (32 + 7 * (q.val - p.val)) 1 = 1 ↔ e.pinned = true) ∧
              (field r (33 + 7 * (q.val - p.val)) 1 = 1 ↔ e.damaged = true)

/-! ## The memory port (10) -/

/-- R165, R166: the code of a page word. Stored as written it reads clean; one wrong bit, of the data or
of the check byte, is corrected; two wrong bits are found uncorrectable. A word written reads back as
written, and every other word of the store as before. -/
def Obligations.WordCode : Prop :=
  (∀ d : DataWord,
    classify d (checkByte d) = .clean d ∧
    (∀ i, i < 64 → classify (d ^^^ BitVec.twoPow 64 i) (checkByte d) = .corrected d) ∧
    (∀ k, k < 8 → classify d (checkByte d ^^^ BitVec.twoPow 8 k) = .corrected d) ∧
    (∀ i j, i < j → j < 64 →
      classify (d ^^^ BitVec.twoPow 64 i ^^^ BitVec.twoPow 64 j) (checkByte d) = .uncorrectable) ∧
    (∀ i k, i < 64 → k < 8 →
      classify (d ^^^ BitVec.twoPow 64 i) (checkByte d ^^^ BitVec.twoPow 8 k) = .uncorrectable) ∧
    (∀ k m, k < m → m < 8 →
      classify d (checkByte d ^^^ BitVec.twoPow 8 k ^^^ BitVec.twoPow 8 m) = .uncorrectable)) ∧
  ∀ (m : List Host.Cell) (p q : Page) (i j : Nat) (d : DataWord), Memory.wf m = true → i < 128 →
    j < 128 →
    readWord (writeWord m p i d) p i = .clean d ∧
    ((q, j) ≠ (p, i) → readWord (writeWord m p i d) q j = readWord m q j)

/-- R167 to R171, R178, R181: which transfer the port grants next, and that every other row waits. None
before the first boundary or past the budget of 2048; the segment reads first. Then a PRIORITY store
request, in link order; a BACKGROUND one, in link order, once the engine users have had their share; the
copy unit or the updater, of two with demand the one the alternation mark does not name; a BACKGROUND
store request, in link order; and, up to four in a block, a repair when one is listed, else a scrub read
of the next page. (A row that waits leaves the state, which is the model's choice, log entry 16.) -/
def Obligations.PortRowsWait : Prop :=
  ∀ s : State,
    (s.nextGrant ≠ some .segmentRead → exec .segmentReadGrant s = .next s) ∧
    (s.nextGrant ≠ some .updater → exec .adaptationWriteGrant s = .next s) ∧
    (s.nextGrant ≠ some .copyUnit → exec .copyUnitGrant s = .next s) ∧
    ((∀ l, s.nextGrant ≠ some (.store l)) →
      exec .storeReadGrant s = .next s ∧ exec .storeWriteGrant s = .next s) ∧
    (s.nextGrant ≠ some .repair → exec .repairWrite s = .next s) ∧
    ((∀ p, s.nextGrant ≠ some (.scrub p)) → exec .scrubRead s = .next s) ∧
    (s.port.account = none → s.nextGrant = none) ∧
    ∀ a : Account, s.port.account = some a →
      (2048 ≤ a.total → s.nextGrant = none) ∧
      (a.total < 2048 → s.work.reads ≠ [] → s.nextGrant = some .segmentRead) ∧
      (a.total < 2048 → s.work.reads = [] →
        (∀ l, s.FirstStore .priority l → s.nextGrant = some (.store l)) ∧
        (s.NoStore .priority →
          (s.port.share ≤ s.port.engineCount → ∀ l, s.FirstStore .background l →
            s.nextGrant = some (.store l)) ∧
          (s.port.engineCount < s.port.share ∨ s.NoStore .background →
            (s.CopyAsks a → s.sched.demand = [] ∨ s.port.mark = .updater →
              s.nextGrant = some .copyUnit) ∧
            (s.sched.demand ≠ [] → ¬ s.CopyAsks a ∨ s.port.mark = .copyUnit →
              s.nextGrant = some .updater) ∧
            (¬ s.CopyAsks a → s.sched.demand = [] →
              (∀ l, s.FirstStore .background l → s.nextGrant = some (.store l)) ∧
              (s.NoStore .background →
                (4 ≤ a.scrub → s.nextGrant = none) ∧
                (a.scrub < 4 → s.port.repairs ≠ [] → s.nextGrant = some .repair) ∧
                (a.scrub < 4 → s.port.repairs = [] →
                  (∀ p, s.ScrubNext p → s.nextGrant = some (.scrub p)) ∧
                  ((∀ p, ¬ s.ScrubReads p) → s.nextGrant = none)))))))

/-- R84, R167, R173, R174: the grant of the first read asked for, while its beam waits for another. A
read whose entry is no longer MAPPED is dropped without a transfer. Else the 256 coefficients are kept
for the estimate, a corrected word as corrected and an uncorrectable one as zeros, and one segment read
is counted. Each corrected word is counted and offered to the repair list. Each uncorrectable word is
counted for the port and for the beam; the highest of them is the last-uncorrectable field, STORE FAULT
is raised in all links, and the entry is marked damaged. Nothing else changes. (Which corrections a nearly
full repair list keeps, and that one it already holds is not counted, are log entries 29 and 19.) -/
def Obligations.SegmentReadGrant : Prop :=
  ∀ (x : SegAddr) (rest : List SegAddr) (a : Account) (s : State), s.port.account = some a →
    a.total < 2048 → s.work.reads = x :: rest → (∃ y ∈ rest, y.beam = x.beam) →
    ((∀ e, s.seg? x = some e → e.state = .clearing) →
      exec .segmentReadGrant s = .next (s.modWork fun k => { k with reads := rest })) ∧
    ∀ e, s.seg? x = some e → e.state = .mapped → s.PoolSound →
      exec .segmentReadGrant s = .next (((((s.modWork fun k =>
        { k with
          reads := rest
          bases := k.bases ++
            [⟨x, coefsOf s.mem e.page, (lostWords s.mem e.page).length⟩] }).modPort fun k =>
        { k.afterRead .estimator s.timer.block s.mem e.page with
          account := some { a with segmentReads := a.segmentReads + 1 } }).mapLinks fun k =>
        k.afterLoss (lostWords s.mem e.page)).setSegs
        (damagedAt x (lostWords s.mem e.page) s.segs)).modBeam x.beam fun k =>
        { k with est := { k.est with
          uncorrectable := k.est.uncorrectable.add (lostWords s.mem e.page).length } })

/-- R84 to R91, R93, R167, R173, R174, R190: the last read that a beam waits for, granted when its entry is
MAPPED and dropped when it is not, completes the beam's estimate from every read of the block that was
granted, the words found uncorrectable as zeros: the estimate is the rounded convolution,
saturated and each saturation counted, the error the captured sample less it, likewise; the powers of a
GOOD block take their energies; the normaliser is the regularisation and the energies the windows cover;
and the output block is the error of a live beam scaled by the applied gain and clamped, each clamp
counted. The port, the notices of a lost word and the damaged flag are as for any read, and a dropped read
changes none of them. Other beams' estimates and outputs, the memory and the settings stay. (Which
corrections a nearly full repair list keeps, and that one it already holds is not counted, are log entries
29 and 19.) -/
def Obligations.EstimateCompletes : Prop :=
  ∀ (x : SegAddr) (rest : List SegAddr) (a : Account) (lost : List Nat) (bases : List Base) (s : State),
    s.LastAsked x rest a →
    lost = (match s.readEntry x with
      | some e => lostWords s.mem e.page
      | none => []) →
    bases = (s.work.bases ++ (match s.readEntry x with
      | some e => [Base.mk x (coefsOf s.mem e.page) lost.length]
      | none => [])).filter (fun r => r.addr.beam == x.beam) →
    (∀ r ∈ bases, r.coefs.length = 256) →
    ∃ (u : State) (raws errs scaled : List Int), exec .segmentReadGrant s = .next u ∧
      raws = ((List.range 32).map fun n => roundDiv
        ((bases.map fun r => ((List.range 256).map fun k => (r.coefs.getD k 0).toInt
          * (s.work.rings[r.addr.zone].getD (31 - n + 256 * r.addr.pos.val + k) 0).toInt).sum).sum)
        (2 ^ 30)) ∧
      u.beams[x.beam].est.y = raws.map sat16 ∧
      errs = List.zipWith (fun d y : Sample => d.toInt - y.toInt)
        s.capture[x.beam] u.beams[x.beam].est.y ∧
      u.beams[x.beam].est.e = errs.map sat16 ∧
      u.beams[x.beam].est.estSats = s.beams[x.beam].est.estSats.add (raws.countP fun q =>
        decide (q < -32768 ∨ 32767 < q)) ∧
      u.beams[x.beam].est.errSats = s.beams[x.beam].est.errSats.add (errs.countP fun q =>
        decide (q < -32768 ∨ 32767 < q)) ∧
      u.beams[x.beam].est.uncorrectable =
        s.beams[x.beam].est.uncorrectable.add lost.length ∧
      u.beams[x.beam].est.block = s.timer.block ∧ u.beams[x.beam].est.reads = bases.length ∧
      u.beams[x.beam].est.zeroed = (bases.map (·.zeroed)).sum ∧
      u.beams[x.beam].est.ed = energy s.capture[x.beam] ∧
      u.beams[x.beam].est.ey = energy u.beams[x.beam].est.y ∧
      u.beams[x.beam].est.ee = energy u.beams[x.beam].est.e ∧
      u.beams[x.beam].est.pd = (if s.timer.status = .good
        then s.beams[x.beam].est.pd - s.beams[x.beam].est.pd / 16 + energy s.capture[x.beam] / 16
        else s.beams[x.beam].est.pd) ∧
      u.beams[x.beam].est.py = (if s.timer.status = .good
        then s.beams[x.beam].est.py - s.beams[x.beam].est.py / 16
          + energy u.beams[x.beam].est.y / 16
        else s.beams[x.beam].est.py) ∧
      u.beams[x.beam].est.pe = (if s.timer.status = .good
        then s.beams[x.beam].est.pe - s.beams[x.beam].est.pe / 16
          + energy u.beams[x.beam].est.e / 16
        else s.beams[x.beam].est.pe) ∧
      u.beams[x.beam].est.normaliser = s.beams[x.beam].set.delta + ((List.finRange 6).map fun z =>
        windowEnergy s.work.energies[z] s.beams[x.beam].windows[z]).sum ∧
      u.beams[x.beam].out.block = s.timer.block ∧
      scaled = u.beams[x.beam].est.e.map (fun v =>
        roundDiv (v.toInt * s.beams[x.beam].out.applied) 32768) ∧
      u.beams[x.beam].out.samples = (if s.timer.status = .good
          ∧ s.work.enabled.getLsbD x.beam.val = true
        then scaled.map fun q => BitVec.ofInt 16
          (clampInt (-(s.beams[x.beam].set.limit : Int)) s.beams[x.beam].set.limit q)
        else List.replicate 32 0) ∧
      u.beams[x.beam].out.clamps = (if s.timer.status = .good
          ∧ s.work.enabled.getLsbD x.beam.val = true
        then s.beams[x.beam].out.clamps.add (scaled.countP fun q =>
          decide (q < -(s.beams[x.beam].set.limit : Int) ∨ (s.beams[x.beam].set.limit : Int) < q))
        else s.beams[x.beam].out.clamps) ∧
      (∀ c : Beam, c ≠ x.beam →
        u.beams[c].est = s.beams[c].est ∧ u.beams[c].out = s.beams[c].out) ∧
      (s.PoolSound →
        u.port = (match s.readEntry x with
          | some e => { s.port.afterRead .estimator s.timer.block s.mem e.page with
              account := some { a with segmentReads := a.segmentReads + 1 } }
          | none => s.port) ∧
        u.segs = damagedAt x lost s.segs) ∧
      (lost ≠ [] → ∀ l : Link, u.links[l].notices.getLsbD 3 = true) ∧
      u.work.reads = rest ∧ u.mem = s.mem ∧ s.SettingsKept u

/-- R137 to R140, R142, R127 to R129, R175, R170, log entry 9: the grant of the first demand entry writes
the segment's 256 updated coefficients, each its base plus the rounded step, saturated; every byte
outside the page stays. The entry leaves the list, the page is marked written, its damaged flag and
repair-list entries go, and the grant counts as an engine grant to the updater. The lane's pass moves to
its next eligible segment, or completes when none lies after: the lane is freed, the pass is counted for
its beam, and a rotating order puts the beam at the bottom. Nothing else of any beam and no other lane
changes. -/
def Obligations.AdaptationWriteGrant : Prop :=
  ∀ (d : Demand) (rest : List Demand) (e : Segment) (base : Base) (a : Account) (s : State),
    s.nextGrant = some .updater → s.port.account = some a → s.sched.demand = d :: rest →
    s.seg? d.addr = some e → s.work.bases.find? (fun r => r.addr == d.addr) = some base →
    Memory.wf s.mem = true →
    ∃ (u : State) (c : Nat → Coef), exec .adaptationWriteGrant s = .next u ∧
      (∀ k, c k = sat32 ((base.coefs.getD k 0).toInt + roundDiv
        (s.beams[d.addr.beam].set.mu * ((List.range 32).map fun n =>
          (s.beams[d.addr.beam].est.e.getD n 0).toInt
            * (s.work.rings[d.addr.zone].getD (31 - n + 256 * d.addr.pos.val + k) 0).toInt).sum
          * 2 ^ 17) s.beams[d.addr.beam].est.normaliser)) ∧
      (∀ i, i < 128 → readWord u.mem e.page i = .clean (c (2 * i + 1) ++ c (2 * i))) ∧
      (∀ b, ¬ inPage e.page b → readByte u.mem b = readByte s.mem b) ∧
      u.sched.demand = rest ∧ u.sched.granted = s.sched.granted + 1 ∧
      u.pool.written = s.pool.written ||| BitVec.twoPow 8192 e.page.val ∧
      u.segs = s.segs.map (fun f => if f.page = e.page then { f with damaged := false } else f) ∧
      u.port = { s.port with
        account := some { a with adaptation := a.adaptation + 1 }
        repairs := s.port.repairs.filter fun r => r.page != e.page
        engineCount := min (s.port.engineCount + 1) s.port.share
        mark := .updater } ∧
      u = { s with
        mem := u.mem, sched := u.sched, pool := u.pool, segs := u.segs, port := u.port
        beams := u.beams } ∧
      (s.sched.lanes[d.lane] = none → u.beams = s.beams ∧
        u.sched = { s.sched with demand := rest, granted := s.sched.granted + 1 }) ∧
      (∀ (p : Pass), s.sched.lanes[d.lane] = some p →
        (∀ f fs, s.remaining p.beam (d.addr.point + 1) = f :: fs →
          u.beams = s.beams ∧
          u.sched = { s.sched with
            demand := rest, granted := s.sched.granted + 1
            lanes := s.sched.lanes.set d.lane
              (some { p with updated := p.updated + 1, point := f.addr.point }) }) ∧
        (s.remaining p.beam (d.addr.point + 1) = [] →
          (∀ b : Beam, u.beams[b] = if b = p.beam
            then { s.beams[b] with passes := s.beams[b].passes.bump } else s.beams[b]) ∧
          u.sched = { s.sched with
            demand := rest, granted := s.sched.granted + 1
            lanes := s.sched.lanes.set d.lane none
            bottom := match s.sched.rotation with
              | .rotating => p.beam
              | .fixed => s.sched.bottom }))

/-- R37, R64, R73, R150, R151, R153, R156, R158 to R160, R170, R173 to R175: a copy unit grant carries out
one page of the head job, as its kind says: a CLEAR, FILL or ZERO writes its constant to the segment page,
ZERO making the entry MAPPED; a CAPTURE or RESTORE copies the 128 words from the segment page to the anchor
page or back, corrected, a word found uncorrectable as zero. A word so lost is recorded for the reader COPY,
raises STORE FAULT, sets the fault mark of the job and, on a segment page, the entry's damaged flag. The
written page is marked written, its repair-list entries go, and a segment page's damaged flag clears. A job
with a page left stays at the head, its progress past the page (`advanceJob`, log entry 13); one with none
leaves the list, and so do the jobs behind it that then become head with no work left. At each completion
a RESTORE or CLEAR sets the latch and ends the divergence run, a FILL or ZERO sets the latch, a CAPTURE
without a fault makes the anchor VALID with ANCHOR TAKEN in all links, and a RESTORE with one makes it
INVALID; JOB DONE is raised as R37 says for the job's origin. Every byte outside the written page stays
(their numbering is the model's, log entry 9), and nothing else changes. (Which corrections a nearly full
repair list keeps, and that one it already holds is not counted, are log entries 29 and 19; that they are
offered before the written page's entries go is log entry 30.) -/
def Obligations.CopyUnitGrant : Prop :=
  ∀ (j : Job) (rest : List Job) (e : Segment) (a : Account) (lost : List Nat) (s : State),
    s.nextGrant = some .copyUnit → s.port.account = some a → s.jobs = j :: rest →
    s.jobNext j = some e → Memory.wf s.mem = true → s.PoolSound → s.JobsSound →
    lost = (match j.source e with
      | some q => lostWords s.mem q
      | none => []) →
    ∃ (u : State) (page : Page) (done : List Job), exec .copyUnitGrant s = .next u ∧
      j.target e = some page ∧
      done = (if s.hasWork (j.past e) = true then []
        else (j.past e).afterLoss lost :: rest.takeWhile fun k => !u.hasWork k) ∧
      (∀ i, i < 128 → readWord u.mem page i = .clean (j.word s.mem e i)) ∧
      (∀ b, ¬ inPage page b → readByte u.mem b = readByte s.mem b) ∧
      (∀ k : Port, k = (match j.source e with
          | some q => s.port.afterRead .copy s.timer.block s.mem q
          | none => s.port) →
        u.port = { k with
          account := some { a with copy := a.copy + j.transfers }
          engineCount := min (s.port.engineCount + 1) s.port.share
          mark := .copyUnit
          repairs := k.repairs.filter fun r => r.page != page }) ∧
      u.pool = { s.pool with written := s.pool.written ||| BitVec.twoPow 8192 page.val } ∧
      u.segs = s.segs.map (fun f => if f.addr = e.addr then j.entryAfter lost f else f) ∧
      u.jobs = (if s.hasWork (j.past e) = true then (s.advanceJob e j).afterLoss lost :: rest
        else rest.dropWhile fun k => !u.hasWork k) ∧
      (∀ b : Beam, u.beams[b] = s.beams[b].afterJobs b s.timer.block done) ∧
      (∀ m : Link, u.links[m] =
        { s.links[m] with notices := s.links[m].notices ||| s.jobNotices m done lost }) ∧
      u = { s with
        mem := u.mem, port := u.port, pool := u.pool, segs := u.segs, jobs := u.jobs
        beams := u.beams, links := u.links }

/-- R169, R173, R174, R176, R182, R184, R185, R29: the grant of a store request. A read answers with the
coefficients asked for, a corrected word corrected and an uncorrectable one as zeros; a write puts its
values into the covered words, the other halves of the words at its ends kept as read. The status is DONE
when no word read is uncorrectable, else STORE FAULT with their number behind the values; such a word is
recorded for the reader STORE, with STORE FAULT in all links and the entry's damaged flag. A write holds
its beam's mask to the boundary and drops the page's repair-list entries, and its own corrections are not
offered. Either counts a store transfer, a BACKGROUND one resets the engine count, and the link's command is
answered, with the commands queued behind it executed next (`AnswersStore`). STORE_READ_GRANT leaves the
state when the request granted next is a write, and STORE_WRITE_GRANT when it is a read, which is the
model's choice (log entry 16). Every byte outside the covered words stays (the numbering of the bytes is
the model's, log entry 9), and nothing else changes. (Which corrections a nearly full repair list keeps,
and that one it already holds is not counted, are log entries 29 and 19.) -/
def Obligations.StoreGrants : Prop :=
  ∀ (l : Link) (x : SegAddr) (first count : Nat) (e : Segment) (ps waiting : List Place) (tag : Byte)
    (c : Command) (a : Account) (s : State), s.nextGrant = some (.store l) →
    s.port.account = some a → s.seg? x = some e → s.WaitsForStore l ps tag c waiting → 0 < count →
    first + count ≤ 256 → count ≤ 64 → s.PoolSound →
    (∀ is lost : List Nat, s.links[l].request = some ⟨.read, x, first, count⟩ →
      is = ((List.range 128).filter fun i =>
        decide (first < 2 * i + 2) && decide (2 * i < first + count)) →
      lost = lostAmong s.mem e.page is →
      exec .storeWriteGrant s = .next s ∧
      (((s.modPort fun k => { k.afterWords .store true s.timer.block s.mem e.page is with
        account := some { a with store := a.store + 1 }
        engineCount := if s.links[l].access = .background then 0 else k.engineCount }).mapLinks fun k =>
          k.afterLoss lost).setSegs (damagedAt x lost s.segs)).AnswersStore l ps tag
            (if lost = [] then 0 else 12)
            (((List.range count).flatMap fun k =>
              let d := (readWord s.mem e.page ((first + k) / 2)).value
              leBytes 4 (if (first + k) % 2 = 0 then d.extractLsb' 0 32
                else d.extractLsb' 32 32).toNat)
              ++ if lost = [] then [] else [BitVec.ofNat 8 lost.length])
            waiting (exec .storeReadGrant s)) ∧
    ∀ (values : List Coef) (is lost : List Nat), values.length = count →
      s.links[l].request = some ⟨.write values, x, first, count⟩ → Memory.wf s.mem = true →
      is = ((if first % 2 = 1 then [first / 2] else [])
        ++ if (first + count) % 2 = 1 then [(first + count) / 2] else []) →
      lost = lostAmong s.mem e.page is →
      exec .storeReadGrant s = .next s ∧
      ∃ (m : List Host.Cell) (hold : BitVec 16),
        ((((s.modPort fun k => { k.afterWords .store false s.timer.block s.mem e.page is with
          account := some { a with store := a.store + 1 }
          engineCount := if s.links[l].access = .background then 0 else k.engineCount
          repairs := k.repairs.filter fun r => r.page != e.page }).mapLinks fun k =>
            k.afterLoss lost).setSegs (damagedAt x lost s.segs)).setMem m |>.setWriteHold hold
          ).AnswersStore l ps tag (if lost = [] then 0 else 12)
            (if lost = [] then [] else [BitVec.ofNat 8 lost.length]) waiting (exec .storeWriteGrant s) ∧
        (∀ b : Beam, hold.getLsbD b.val = (s.writeHold.getLsbD b.val || b == x.beam)) ∧
        (∀ i, first / 2 ≤ i → i ≤ (first + count - 1) / 2 →
          readWord m e.page i = .clean
            ((if 2 * i + 1 < first + count then values.getD (2 * i + 1 - first) 0
              else (readWord s.mem e.page i).value.extractLsb' 32 32)
            ++ (if first ≤ 2 * i then values.getD (2 * i - first) 0
              else (readWord s.mem e.page i).value.extractLsb' 0 32))) ∧
        ∀ b, (b < 9 * (128 * e.page.val + first / 2) ∨
            9 * (128 * e.page.val + (first + count - 1) / 2 + 1) ≤ b) →
          readByte m b = readByte s.mem b

/-- R169, R171 to R174, R177, R178: when the budget has room, nothing else is pending and the block has
used fewer than 4 such transfers, REPAIR_WRITE writes the oldest repair-list entry, whose page's entries
then go, and counts it; every byte outside the word stays. With no repair listed SCRUB_READ reads the
lowest allocated written page at or above the scrub position, or the lowest of all when there is none,
counted as a round, and the position goes just past it, or to 0 past the last page. Each corrected word
is counted and offered to the repair list. Each uncorrectable word is counted, the highest is recorded,
STORE FAULT is raised in all links, and the page is marked: a segment page's entry is damaged; of an
anchor page no entry is, but a listed RESTORE or CAPTURE of the beam takes the fault mark, and with none
the beam's anchor is INVALID. With no such page SCRUB_READ leaves the state (log entry 16). Nothing else
changes. (The numbering of the bytes is the model's, log entry 9; which corrections a nearly full repair
list keeps, and that one it already holds is not counted, are log entries 29 and 19.) -/
def Obligations.RepairAndScrub : Prop :=
  ∀ (a : Account) (s : State), s.CareDue a →
    (∀ (r : Repair) (rs : List Repair), s.port.repairs = r :: rs → Memory.wf s.mem = true →
      r.word < 128 →
      ∃ u : State, exec .repairWrite s = .next u ∧
        u = { s with
          mem := u.mem
          port := { s.port with
            account := some { a with scrub := a.scrub + 1 }
            repairs := s.port.repairs.filter fun q => q.page != r.page
            repairsWritten := s.port.repairsWritten.bump } } ∧
        readWord u.mem r.page r.word = .clean r.value ∧
        ∀ b, (b < 9 * (128 * r.page.val + r.word) ∨ 9 * (128 * r.page.val + r.word) + 9 ≤ b) →
          readByte u.mem b = readByte s.mem b) ∧
    (s.port.repairs = [] → (∀ p, ¬ s.ScrubReads p) → exec .scrubRead s = .next s) ∧
    ∀ p : Page, s.port.repairs = [] → s.ScrubNext p →
      ∃ u : State, exec .scrubRead s = .next u ∧
        u = { s with
          port := { s.port.afterRead .scrub s.timer.block s.mem p with
            account := some { a with scrub := a.scrub + 1 }
            scrubPos := if p.val = 8191 then 0 else p.val + 1
            scrubRounds := if p.val < s.port.scrubPos then s.port.scrubRounds.bump
              else s.port.scrubRounds }
          links := u.links, segs := u.segs, jobs := u.jobs, beams := u.beams } ∧
        (∀ l : Link, u.links[l] = s.links[l].afterLoss (lostWords s.mem p)) ∧
        (lostWords s.mem p = [] → u.segs = s.segs ∧ u.jobs = s.jobs ∧ u.beams = s.beams) ∧
        (∀ x : SegAddr, lostWords s.mem p ≠ [] → s.role p = .segment x →
          u.segs = damagedAt x (lostWords s.mem p) s.segs ∧ u.jobs = s.jobs ∧ u.beams = s.beams) ∧
        ∀ x : SegAddr, lostWords s.mem p ≠ [] → s.role p = .anchor x →
          u.segs = s.segs ∧
          ((∃ o n f, .restore x.beam o n f ∈ s.jobs ∨ .capture x.beam o n f ∈ s.jobs) →
            u.beams = s.beams ∧
            u.jobs = s.jobs.map fun j => if j.beam = x.beam then j.afterLoss (lostWords s.mem p) else j) ∧
          ((∀ o n f, .restore x.beam o n f ∉ s.jobs ∧ .capture x.beam o n f ∉ s.jobs) →
            u.jobs = s.jobs ∧
            ∀ b : Beam, u.beams[b] = if b = x.beam
              then { s.beams[b] with anchor := { s.beams[b].anchor with valid := false } }
              else s.beams[b])

/-! ## Evaluation and demand (06, 07) -/

/-- R99 to R104, R106, R107, R109, R110, R112, R116, R117, R188: the evaluation that the last read of a
beam in a GOOD block brings, granted or dropped: the talk state with its candidate and run, the request
condition, and the target and current gain are as `Evaluated` says. A diverging beam whose run reaches its
count is declared diverged: its CAPTURE is aborted and a RESTORE, or with no VALID anchor a CLEAR, is
queued, with BEAM DIVERGED in all links. A beam with a long enough run of good cancellation and an old
enough anchor queues a CAPTURE; the run is 0 at an evaluation that does not qualify, the first after a
CAPTURE, RESTORE or CLEAR of the beam was queued among them (log entry 26). (With the read granted, the
beam holds a MAPPED segment, and a job so queued stays listed.) The latch is set when the condition turns
true in LATCHED mode and at the hold limit; a declaration of divergence apart, it is otherwise as it was.
The rows TALK_STATE_CHANGE, DIVERGENCE_DECLARED and CAPTURE_TRIGGER are that step when their event happens
in it; when it does not, they leave the state (log entry 1). No setting and no memory changes. -/
def Obligations.EvaluationEvents : Prop :=
  ∀ (x : SegAddr) (rest : List SegAddr) (a : Account) (b : Beam) (s : State),
    s.LastAsked x rest a → x.beam = b → s.timer.status = .good → s.JobsSound → s.PoolSound →
    ∃ (u : State) (cand : TalkState) (run count : Nat), exec .segmentReadGrant s = .next u ∧
      u.mem = s.mem ∧ s.SettingsKept u ∧ u.zones = s.zones ∧ s.Evaluated u b cand run count ∧
      (u.beams[b].talk.state ≠ s.beams[b].talk.state →
        exec (.talkStateChange b .segmentRead) s = .next u) ∧
      (u.beams[b].talk.state = s.beams[b].talk.state →
        exec (.talkStateChange b .segmentRead) s = .next s) ∧
      (s.beams[b].latch = true ∨ s.requestRises u b = true → u.beams[b].latch = true) ∧
      (s.declaresIn u b = false → u.beams[b].latch = (s.beams[b].latch || s.requestRises u b
        || (rest.isEmpty && (List.finRange 4).any fun n =>
          s.reachesLimit u n && (s.sched.lanes[n]).any fun p => p.beam == b))) ∧
      u.beams[b].out.applied = s.beams[b].out.applied ∧
      ∀ (pd pe : Nat) (new : TalkState), pd = u.beams[b].est.pd → pe = u.beams[b].est.pe →
        new = u.beams[b].talk.state →
        (s.beams[b].enable = true → (s.modelState b = .idle ∨ s.modelState b = .capturing) →
          (new = .farOnly ∨ new = .double) →
          (16 + s.beams[b].set.margin) * pd < 16 * pe →
          (s.beams[b].set.divergenceCount ≤ s.beams[b].talk.divergenceRun + 1 →
            exec (.divergenceDeclared b .segmentRead) s = .next u ∧
            u.beams[b].talk.divergences = s.beams[b].talk.divergences.bump ∧
            u.beams[b].talk.divergenceRun = 0 ∧ u.beams[b].talk.captureRun = 0 ∧
            (∀ l : Link, u.links[l].notices.getLsbD 0 = true) ∧ u.laneOf b = none ∧
            u.jobs.any (Job.isCaptureOf b) = false ∧
            ((s.readEntry x).isSome = true → s.beams[b].anchor.valid = false →
              .clear b .divergence 0 ∈ u.jobs) ∧
            ((s.readEntry x).isSome = true → s.beams[b].anchor.valid = true →
              .restore b .divergence 0 false ∈ u.jobs)) ∧
          (s.beams[b].talk.divergenceRun + 1 < s.beams[b].set.divergenceCount →
            exec (.divergenceDeclared b .segmentRead) s = .next s ∧
            u.beams[b].talk.divergenceRun = s.beams[b].talk.divergenceRun + 1)) ∧
        (s.beams[b].enable = false ∨ s.modelState b = .restoring ∨ s.modelState b = .clearing ∨
            new = .quiet ∨ new = .nearOnly ∨ 16 * pe ≤ (16 + s.beams[b].set.margin) * pd →
          exec (.divergenceDeclared b .segmentRead) s = .next s ∧
          u.beams[b].talk.divergenceRun = 0) ∧
        (s.beams[b].enable = true → s.modelState b = .idle → new = .farOnly →
          s.beams[b].set.captureRatio * pe ≤ pd → pe ≤ pd →
          s.beams[b].talk.copyQueued = false →
          (s.beams[b].set.captureCount ≤ s.beams[b].talk.captureRun + 1 →
            s.beams[b].anchoring = true → s.hasJob b = false →
            (s.beams[b].anchor.valid = false ∨ s.beams[b].set.captureInterval ≤
              (s.timer.block - s.beams[b].anchor.block).toNat) →
            exec (.captureTrigger b .segmentRead) s = .next u ∧
            u.beams[b].talk.captureRun = 0 ∧ u.laneOf b = none ∧
            ((s.readEntry x).isSome = true →
              .capture b .trigger 0 false ∈ u.jobs ∧ u.beams[b].anchor.valid = false)) ∧
          (s.beams[b].talk.captureRun + 1 < s.beams[b].set.captureCount ∨
              s.beams[b].anchoring = false ∨ s.hasJob b = true ∨
              (s.beams[b].anchor.valid = true ∧
                (s.timer.block - s.beams[b].anchor.block).toNat < s.beams[b].set.captureInterval) →
            exec (.captureTrigger b .segmentRead) s = .next s ∧
            u.beams[b].talk.captureRun =
              min (s.beams[b].talk.captureRun + 1) s.beams[b].set.captureCount)) ∧
        (s.beams[b].enable = false ∨ s.modelState b ≠ .idle ∨ new ≠ .farOnly ∨
            pd < s.beams[b].set.captureRatio * pe ∨ s.beams[b].talk.copyQueued = true →
          exec (.captureTrigger b .segmentRead) s = .next s ∧ u.beams[b].talk.captureRun = 0)

/-- R119, R121, R124 to R126, R129 to R132, R145: the demand list of a block, which its last read forms,
or its boundary when it has no read (`FormsAt`). In the priority order, each beam in service and not held lists its eligible segments on open paths, at or after
the pass's position and read in the block, in table order, until the list holds 256. A beam is masked by
any of the seven sources. Of the lanes whose beam no evaluation of the step queues a job for: a pass
whose beam is masked is held and ages, and at the hold limit is abandoned with its latch set and counted,
which the row HOLD_LIMIT_ABANDON is; short of it, and of an unmasked beam, the row leaves the state (log
entry 1). An unmasked pass is not held and its age is 0; it completes when no segment remains, else its
position moves to the first that does, unless the list was full before it. -/
def Obligations.DemandListAndHoldLimit : Prop :=
  ∀ (w : Carrier) (s : State), s.FormsAt w → s.JobsSound → s.PoolSound →
    ∃ u : State, exec (carrierRow w) s = .next u ∧ u.mem = s.mem ∧ s.SettingsKept u ∧
      u.sched.demandBlock = u.timer.block ∧ u.sched.listed = u.sched.demand.length ∧
      u.sched.granted = 0 ∧
      u.sched.demand = ((List.finRange 16).flatMap fun i =>
        (List.finRange 4).flatMap fun n =>
          match u.sched.lanes[n] with
          | none => []
          | some p =>
            if p.beam = s.sched.bottom + 1 + i ∧ p.held = false then
              (u.segs.filter fun f => f.addr.beam == p.beam
                && decide (0 < u.beams[p.beam].windows[f.addr.zone]) && f.state == .mapped && !f.pinned
                && decide (p.point ≤ f.addr.point)
                && u.work.bases.any fun r => r.addr == f.addr).map fun f => ⟨n, f.addr⟩
            else []).take 256 ∧
      (∀ b : Beam, u.masked b = true ↔
        (∃ l : Link, u.links[l].freeze.getLsbD b.val = true) ∨ u.beams[b].enable = false ∨
        u.beams[b].set.mu = 0 ∨ u.beams[b].talk.state ≠ .farOnly ∨
        (∃ j ∈ u.jobs, j.beam = b ∧ ∀ z ps n l, j ≠ .zero b z ps n l) ∨
        u.writeHold.getLsbD b.val = true ∨
        (∃ (l : Link) (values : List Coef) (y : SegAddr) (first count : Nat),
          u.links[l].request = some ⟨.write values, y, first, count⟩ ∧ y.beam = b) ∨
        u.timer.status ≠ .good) ∧
      (∀ (n : LaneNo) (p : Pass), u.sched.lanes[n] = some p → p.held = u.masked p.beam) ∧
      (∀ (n : LaneNo) (p : Pass), s.sched.lanes[n] = some p → s.keepsPass u p.beam = true →
        (u.masked p.beam = true → s.sched.holdLimit ≤ p.age + 1 →
          exec (.holdLimitAbandon n w) s = .next u ∧
          u.sched.lanes[n] = none ∧ u.beams[p.beam].latch = true ∧
          u.beams[p.beam].passes = s.beams[p.beam].passes) ∧
        (u.masked p.beam = true → p.age + 1 < s.sched.holdLimit →
          exec (.holdLimitAbandon n w) s = .next s ∧
          u.sched.lanes[n] = some { p with held := true, age := p.age + 1 } ∧
          u.beams[p.beam].passes = s.beams[p.beam].passes) ∧
        (u.masked p.beam = false →
          exec (.holdLimitAbandon n w) s = .next s ∧
          (u.sched.listed < 256 →
            (u.remaining p.beam p.point = [] →
              u.sched.lanes[n] = none ∧
              u.beams[p.beam].passes = s.beams[p.beam].passes.bump) ∧
            ∀ f fs, u.remaining p.beam p.point = f :: fs →
              u.sched.lanes[n] = some { p with held := false, age := 0, point := f.addr.point } ∧
              u.beams[p.beam].passes = s.beams[p.beam].passes) ∧
          (u.sched.listed = 256 → ∀ q, u.sched.lanes[n] = some q →
            q = { p with held := false, age := 0, point := q.point } ∧
            (q.point = p.point ∨
              ∃ f fs, u.remaining p.beam p.point = f :: fs ∧ q.point = f.addr.point)))) ∧
      u.sched.holdAbandons =
        s.sched.holdAbandons.add ((List.finRange 4).countP fun n => s.reachesLimit u n) ∧
      (∀ n : LaneNo, s.sched.lanes[n] = none →
        u.sched.lanes[n] = none ∧ exec (.holdLimitAbandon n w) s = .next s) ∧
      (s.sched.rotation = .fixed → u.sched.bottom = s.sched.bottom)

/-! ## What every step keeps -/

/-- R165, R62, R65, R172, log entry 9: every step keeps the DRAM in its canonical form; and every step
keeps the segment table in order with no page named twice, anchor pages exactly where anchoring is on,
and a repair list of at most 8 different words. -/
def Obligations.MemoryAndPoolAreKept : Prop :=
  ∀ s t : State, step s = .next t →
    (Memory.wf s.mem = true → Memory.wf t.mem = true) ∧ (s.PoolSound → t.PoolSound)

/-- R21 to R29, R40, R184, R3 to R11: every step keeps the links sound (at most four places, one of them
executing exactly when a store request is pending, whole slip buffers, a SEARCH link with nothing of a
LOCKED one), and the frame timer's runs within their lock counts. -/
def Obligations.LinksAndTimerAreKept : Prop :=
  ∀ s t : State, step s = .next t →
    (s.LinksSound → t.LinksSound) ∧ (s.timer.Sound → t.timer.Sound)

/-- R52 to R56, R60, R92, R93, R188, R192: every step keeps each zone's ring whole and its energies exact,
and each beam's settings, windows, normaliser and gains in their ranges. -/
def Obligations.HistoryAndBeamsAreKept : Prop :=
  ∀ s t : State, step s = .next t →
    ((∀ z : Zone, s.zones[z].Exact) → ∀ z : Zone, t.zones[z].Exact) ∧
    (s.BeamsInRange → t.BeamsInRange)

/-- R147, R148, R149, R151, R152, R161, R132, R120, R69, R125, R167, R168, R171: every step keeps the job
list in its order with at most 16 commanded jobs and one copy job of a beam, a head that has work left and
ZERO jobs whose segments are CLEARING, no VALID anchor without anchoring, no
lane of a beam that a job masks; and every step keeps the active segment count at 1024 at most and the
block's transfers within their budgets. -/
def Obligations.JobsAndBudgetAreKept : Prop :=
  ∀ s t : State, step s = .next t →
    (s.JobsSound → t.JobsSound) ∧ (s.BudgetSound → t.BudgetSound)

end
end

