-- ==== Sys2Proof/Laws/State.lean ====
section
/-! SUPPORT. The updates of State, field by field: each update changes its own field and no other. -/

namespace Sys2Proof.Machine

/-! ## The kernel-friendly map -/

/-- What `vmap` holds at an index. -/
@[simp] theorem vmap_getElem {α β : Type} {n : Nat} (f : α → β) (v : Vector α n) (i : Nat)
    (h : i < n) : (vmap f v)[i] = f v[i] := by
  simp [vmap]

/-- What `vmap` holds at a `Fin`. -/
@[simp] theorem vmap_getElem_fin {α β : Type} {n : Nat} (f : α → β) (v : Vector α n) (i : Fin n) :
    (vmap f v)[i] = f v[i] := vmap_getElem f v i.val i.isLt

/-- The list of a `vmap`. -/
@[simp] theorem vmap_toList {α β : Type} {n : Nat} (f : α → β) (v : Vector α n) :
    (vmap f v).toList = v.toList.map f := by
  simp [vmap, Vector.toList]

/-- What a vector holds after one place of it is set. -/
theorem getElem_set_fin {α : Type} {n : Nat} (v : Vector α n) (i j : Fin n) (x : α) :
    (v.set i x)[j] = if j = i then x else v[j] := by
  simp only [Fin.getElem_fin, Vector.getElem_set, Fin.ext_iff, eq_comm]

/-! ## modTimer -/

/-- `modTimer` sets `timer`. -/
@[simp] theorem State.modTimer_timer (f : Timer → Timer) (s : State) :
    (s.modTimer f).timer = f s.timer := rfl
/-- `modTimer` keeps `capture`. -/
@[simp] theorem State.modTimer_capture (f : Timer → Timer) (s : State) :
    (s.modTimer f).capture = s.capture := rfl
/-- `modTimer` keeps `speaker`. -/
@[simp] theorem State.modTimer_speaker (f : Timer → Timer) (s : State) :
    (s.modTimer f).speaker = s.speaker := rfl
/-- `modTimer` keeps `links`. -/
@[simp] theorem State.modTimer_links (f : Timer → Timer) (s : State) :
    (s.modTimer f).links = s.links := rfl
/-- `modTimer` keeps `linkLock`. -/
@[simp] theorem State.modTimer_linkLock (f : Timer → Timer) (s : State) :
    (s.modTimer f).linkLock = s.linkLock := rfl
/-- `modTimer` keeps `zones`. -/
@[simp] theorem State.modTimer_zones (f : Timer → Timer) (s : State) :
    (s.modTimer f).zones = s.zones := rfl
/-- `modTimer` keeps `beams`. -/
@[simp] theorem State.modTimer_beams (f : Timer → Timer) (s : State) :
    (s.modTimer f).beams = s.beams := rfl
/-- `modTimer` keeps `segs`. -/
@[simp] theorem State.modTimer_segs (f : Timer → Timer) (s : State) :
    (s.modTimer f).segs = s.segs := rfl
/-- `modTimer` keeps `pool`. -/
@[simp] theorem State.modTimer_pool (f : Timer → Timer) (s : State) :
    (s.modTimer f).pool = s.pool := rfl
/-- `modTimer` keeps `mem`. -/
@[simp] theorem State.modTimer_mem (f : Timer → Timer) (s : State) :
    (s.modTimer f).mem = s.mem := rfl
/-- `modTimer` keeps `work`. -/
@[simp] theorem State.modTimer_work (f : Timer → Timer) (s : State) :
    (s.modTimer f).work = s.work := rfl
/-- `modTimer` keeps `sched`. -/
@[simp] theorem State.modTimer_sched (f : Timer → Timer) (s : State) :
    (s.modTimer f).sched = s.sched := rfl
/-- `modTimer` keeps `jobs`. -/
@[simp] theorem State.modTimer_jobs (f : Timer → Timer) (s : State) :
    (s.modTimer f).jobs = s.jobs := rfl
/-- `modTimer` keeps `port`. -/
@[simp] theorem State.modTimer_port (f : Timer → Timer) (s : State) :
    (s.modTimer f).port = s.port := rfl
/-- `modTimer` keeps `writeHold`. -/
@[simp] theorem State.modTimer_writeHold (f : Timer → Timer) (s : State) :
    (s.modTimer f).writeHold = s.writeHold := rfl
/-- `modTimer` keeps `draws`. -/
@[simp] theorem State.modTimer_draws (f : Timer → Timer) (s : State) :
    (s.modTimer f).draws = s.draws := rfl
/-- `modTimer` keeps `pending`. -/
@[simp] theorem State.modTimer_pending (f : Timer → Timer) (s : State) :
    (s.modTimer f).pending = s.pending := rfl

/-! ## setCapture -/

/-- `setCapture` keeps `timer`. -/
@[simp] theorem State.setCapture_timer (v : Vector (List Sample) 16) (s : State) :
    (s.setCapture v).timer = s.timer := rfl
/-- `setCapture` sets `capture`. -/
@[simp] theorem State.setCapture_capture (v : Vector (List Sample) 16) (s : State) :
    (s.setCapture v).capture = v := rfl
/-- `setCapture` keeps `speaker`. -/
@[simp] theorem State.setCapture_speaker (v : Vector (List Sample) 16) (s : State) :
    (s.setCapture v).speaker = s.speaker := rfl
/-- `setCapture` keeps `links`. -/
@[simp] theorem State.setCapture_links (v : Vector (List Sample) 16) (s : State) :
    (s.setCapture v).links = s.links := rfl
/-- `setCapture` keeps `linkLock`. -/
@[simp] theorem State.setCapture_linkLock (v : Vector (List Sample) 16) (s : State) :
    (s.setCapture v).linkLock = s.linkLock := rfl
/-- `setCapture` keeps `zones`. -/
@[simp] theorem State.setCapture_zones (v : Vector (List Sample) 16) (s : State) :
    (s.setCapture v).zones = s.zones := rfl
/-- `setCapture` keeps `beams`. -/
@[simp] theorem State.setCapture_beams (v : Vector (List Sample) 16) (s : State) :
    (s.setCapture v).beams = s.beams := rfl
/-- `setCapture` keeps `segs`. -/
@[simp] theorem State.setCapture_segs (v : Vector (List Sample) 16) (s : State) :
    (s.setCapture v).segs = s.segs := rfl
/-- `setCapture` keeps `pool`. -/
@[simp] theorem State.setCapture_pool (v : Vector (List Sample) 16) (s : State) :
    (s.setCapture v).pool = s.pool := rfl
/-- `setCapture` keeps `mem`. -/
@[simp] theorem State.setCapture_mem (v : Vector (List Sample) 16) (s : State) :
    (s.setCapture v).mem = s.mem := rfl
/-- `setCapture` keeps `work`. -/
@[simp] theorem State.setCapture_work (v : Vector (List Sample) 16) (s : State) :
    (s.setCapture v).work = s.work := rfl
/-- `setCapture` keeps `sched`. -/
@[simp] theorem State.setCapture_sched (v : Vector (List Sample) 16) (s : State) :
    (s.setCapture v).sched = s.sched := rfl
/-- `setCapture` keeps `jobs`. -/
@[simp] theorem State.setCapture_jobs (v : Vector (List Sample) 16) (s : State) :
    (s.setCapture v).jobs = s.jobs := rfl
/-- `setCapture` keeps `port`. -/
@[simp] theorem State.setCapture_port (v : Vector (List Sample) 16) (s : State) :
    (s.setCapture v).port = s.port := rfl
/-- `setCapture` keeps `writeHold`. -/
@[simp] theorem State.setCapture_writeHold (v : Vector (List Sample) 16) (s : State) :
    (s.setCapture v).writeHold = s.writeHold := rfl
/-- `setCapture` keeps `draws`. -/
@[simp] theorem State.setCapture_draws (v : Vector (List Sample) 16) (s : State) :
    (s.setCapture v).draws = s.draws := rfl
/-- `setCapture` keeps `pending`. -/
@[simp] theorem State.setCapture_pending (v : Vector (List Sample) 16) (s : State) :
    (s.setCapture v).pending = s.pending := rfl

/-! ## setSpeaker -/

/-- `setSpeaker` keeps `timer`. -/
@[simp] theorem State.setSpeaker_timer (v : List Byte) (s : State) :
    (s.setSpeaker v).timer = s.timer := rfl
/-- `setSpeaker` keeps `capture`. -/
@[simp] theorem State.setSpeaker_capture (v : List Byte) (s : State) :
    (s.setSpeaker v).capture = s.capture := rfl
/-- `setSpeaker` sets `speaker`. -/
@[simp] theorem State.setSpeaker_speaker (v : List Byte) (s : State) :
    (s.setSpeaker v).speaker = v := rfl
/-- `setSpeaker` keeps `links`. -/
@[simp] theorem State.setSpeaker_links (v : List Byte) (s : State) :
    (s.setSpeaker v).links = s.links := rfl
/-- `setSpeaker` keeps `linkLock`. -/
@[simp] theorem State.setSpeaker_linkLock (v : List Byte) (s : State) :
    (s.setSpeaker v).linkLock = s.linkLock := rfl
/-- `setSpeaker` keeps `zones`. -/
@[simp] theorem State.setSpeaker_zones (v : List Byte) (s : State) :
    (s.setSpeaker v).zones = s.zones := rfl
/-- `setSpeaker` keeps `beams`. -/
@[simp] theorem State.setSpeaker_beams (v : List Byte) (s : State) :
    (s.setSpeaker v).beams = s.beams := rfl
/-- `setSpeaker` keeps `segs`. -/
@[simp] theorem State.setSpeaker_segs (v : List Byte) (s : State) :
    (s.setSpeaker v).segs = s.segs := rfl
/-- `setSpeaker` keeps `pool`. -/
@[simp] theorem State.setSpeaker_pool (v : List Byte) (s : State) :
    (s.setSpeaker v).pool = s.pool := rfl
/-- `setSpeaker` keeps `mem`. -/
@[simp] theorem State.setSpeaker_mem (v : List Byte) (s : State) :
    (s.setSpeaker v).mem = s.mem := rfl
/-- `setSpeaker` keeps `work`. -/
@[simp] theorem State.setSpeaker_work (v : List Byte) (s : State) :
    (s.setSpeaker v).work = s.work := rfl
/-- `setSpeaker` keeps `sched`. -/
@[simp] theorem State.setSpeaker_sched (v : List Byte) (s : State) :
    (s.setSpeaker v).sched = s.sched := rfl
/-- `setSpeaker` keeps `jobs`. -/
@[simp] theorem State.setSpeaker_jobs (v : List Byte) (s : State) :
    (s.setSpeaker v).jobs = s.jobs := rfl
/-- `setSpeaker` keeps `port`. -/
@[simp] theorem State.setSpeaker_port (v : List Byte) (s : State) :
    (s.setSpeaker v).port = s.port := rfl
/-- `setSpeaker` keeps `writeHold`. -/
@[simp] theorem State.setSpeaker_writeHold (v : List Byte) (s : State) :
    (s.setSpeaker v).writeHold = s.writeHold := rfl
/-- `setSpeaker` keeps `draws`. -/
@[simp] theorem State.setSpeaker_draws (v : List Byte) (s : State) :
    (s.setSpeaker v).draws = s.draws := rfl
/-- `setSpeaker` keeps `pending`. -/
@[simp] theorem State.setSpeaker_pending (v : List Byte) (s : State) :
    (s.setSpeaker v).pending = s.pending := rfl

/-! ## modLink -/

/-- `modLink` keeps `timer`. -/
@[simp] theorem State.modLink_timer (l : Link) (f : LinkState → LinkState) (s : State) :
    (s.modLink l f).timer = s.timer := rfl
/-- `modLink` keeps `capture`. -/
@[simp] theorem State.modLink_capture (l : Link) (f : LinkState → LinkState) (s : State) :
    (s.modLink l f).capture = s.capture := rfl
/-- `modLink` keeps `speaker`. -/
@[simp] theorem State.modLink_speaker (l : Link) (f : LinkState → LinkState) (s : State) :
    (s.modLink l f).speaker = s.speaker := rfl
/-- `modLink` sets `links`. -/
@[simp] theorem State.modLink_links (l : Link) (f : LinkState → LinkState) (s : State) :
    (s.modLink l f).links = s.links.set l (f s.links[l]) := rfl
/-- `modLink` keeps `linkLock`. -/
@[simp] theorem State.modLink_linkLock (l : Link) (f : LinkState → LinkState) (s : State) :
    (s.modLink l f).linkLock = s.linkLock := rfl
/-- `modLink` keeps `zones`. -/
@[simp] theorem State.modLink_zones (l : Link) (f : LinkState → LinkState) (s : State) :
    (s.modLink l f).zones = s.zones := rfl
/-- `modLink` keeps `beams`. -/
@[simp] theorem State.modLink_beams (l : Link) (f : LinkState → LinkState) (s : State) :
    (s.modLink l f).beams = s.beams := rfl
/-- `modLink` keeps `segs`. -/
@[simp] theorem State.modLink_segs (l : Link) (f : LinkState → LinkState) (s : State) :
    (s.modLink l f).segs = s.segs := rfl
/-- `modLink` keeps `pool`. -/
@[simp] theorem State.modLink_pool (l : Link) (f : LinkState → LinkState) (s : State) :
    (s.modLink l f).pool = s.pool := rfl
/-- `modLink` keeps `mem`. -/
@[simp] theorem State.modLink_mem (l : Link) (f : LinkState → LinkState) (s : State) :
    (s.modLink l f).mem = s.mem := rfl
/-- `modLink` keeps `work`. -/
@[simp] theorem State.modLink_work (l : Link) (f : LinkState → LinkState) (s : State) :
    (s.modLink l f).work = s.work := rfl
/-- `modLink` keeps `sched`. -/
@[simp] theorem State.modLink_sched (l : Link) (f : LinkState → LinkState) (s : State) :
    (s.modLink l f).sched = s.sched := rfl
/-- `modLink` keeps `jobs`. -/
@[simp] theorem State.modLink_jobs (l : Link) (f : LinkState → LinkState) (s : State) :
    (s.modLink l f).jobs = s.jobs := rfl
/-- `modLink` keeps `port`. -/
@[simp] theorem State.modLink_port (l : Link) (f : LinkState → LinkState) (s : State) :
    (s.modLink l f).port = s.port := rfl
/-- `modLink` keeps `writeHold`. -/
@[simp] theorem State.modLink_writeHold (l : Link) (f : LinkState → LinkState) (s : State) :
    (s.modLink l f).writeHold = s.writeHold := rfl
/-- `modLink` keeps `draws`. -/
@[simp] theorem State.modLink_draws (l : Link) (f : LinkState → LinkState) (s : State) :
    (s.modLink l f).draws = s.draws := rfl
/-- `modLink` keeps `pending`. -/
@[simp] theorem State.modLink_pending (l : Link) (f : LinkState → LinkState) (s : State) :
    (s.modLink l f).pending = s.pending := rfl

/-! ## mapLinks -/

/-- `mapLinks` keeps `timer`. -/
@[simp] theorem State.mapLinks_timer (f : LinkState → LinkState) (s : State) :
    (s.mapLinks f).timer = s.timer := rfl
/-- `mapLinks` keeps `capture`. -/
@[simp] theorem State.mapLinks_capture (f : LinkState → LinkState) (s : State) :
    (s.mapLinks f).capture = s.capture := rfl
/-- `mapLinks` keeps `speaker`. -/
@[simp] theorem State.mapLinks_speaker (f : LinkState → LinkState) (s : State) :
    (s.mapLinks f).speaker = s.speaker := rfl
/-- `mapLinks` sets `links`. -/
@[simp] theorem State.mapLinks_links (f : LinkState → LinkState) (s : State) :
    (s.mapLinks f).links = vmap f s.links := rfl
/-- `mapLinks` keeps `linkLock`. -/
@[simp] theorem State.mapLinks_linkLock (f : LinkState → LinkState) (s : State) :
    (s.mapLinks f).linkLock = s.linkLock := rfl
/-- `mapLinks` keeps `zones`. -/
@[simp] theorem State.mapLinks_zones (f : LinkState → LinkState) (s : State) :
    (s.mapLinks f).zones = s.zones := rfl
/-- `mapLinks` keeps `beams`. -/
@[simp] theorem State.mapLinks_beams (f : LinkState → LinkState) (s : State) :
    (s.mapLinks f).beams = s.beams := rfl
/-- `mapLinks` keeps `segs`. -/
@[simp] theorem State.mapLinks_segs (f : LinkState → LinkState) (s : State) :
    (s.mapLinks f).segs = s.segs := rfl
/-- `mapLinks` keeps `pool`. -/
@[simp] theorem State.mapLinks_pool (f : LinkState → LinkState) (s : State) :
    (s.mapLinks f).pool = s.pool := rfl
/-- `mapLinks` keeps `mem`. -/
@[simp] theorem State.mapLinks_mem (f : LinkState → LinkState) (s : State) :
    (s.mapLinks f).mem = s.mem := rfl
/-- `mapLinks` keeps `work`. -/
@[simp] theorem State.mapLinks_work (f : LinkState → LinkState) (s : State) :
    (s.mapLinks f).work = s.work := rfl
/-- `mapLinks` keeps `sched`. -/
@[simp] theorem State.mapLinks_sched (f : LinkState → LinkState) (s : State) :
    (s.mapLinks f).sched = s.sched := rfl
/-- `mapLinks` keeps `jobs`. -/
@[simp] theorem State.mapLinks_jobs (f : LinkState → LinkState) (s : State) :
    (s.mapLinks f).jobs = s.jobs := rfl
/-- `mapLinks` keeps `port`. -/
@[simp] theorem State.mapLinks_port (f : LinkState → LinkState) (s : State) :
    (s.mapLinks f).port = s.port := rfl
/-- `mapLinks` keeps `writeHold`. -/
@[simp] theorem State.mapLinks_writeHold (f : LinkState → LinkState) (s : State) :
    (s.mapLinks f).writeHold = s.writeHold := rfl
/-- `mapLinks` keeps `draws`. -/
@[simp] theorem State.mapLinks_draws (f : LinkState → LinkState) (s : State) :
    (s.mapLinks f).draws = s.draws := rfl
/-- `mapLinks` keeps `pending`. -/
@[simp] theorem State.mapLinks_pending (f : LinkState → LinkState) (s : State) :
    (s.mapLinks f).pending = s.pending := rfl

/-! ## setLinkLock -/

/-- `setLinkLock` keeps `timer`. -/
@[simp] theorem State.setLinkLock_timer (v : Nat) (s : State) :
    (s.setLinkLock v).timer = s.timer := rfl
/-- `setLinkLock` keeps `capture`. -/
@[simp] theorem State.setLinkLock_capture (v : Nat) (s : State) :
    (s.setLinkLock v).capture = s.capture := rfl
/-- `setLinkLock` keeps `speaker`. -/
@[simp] theorem State.setLinkLock_speaker (v : Nat) (s : State) :
    (s.setLinkLock v).speaker = s.speaker := rfl
/-- `setLinkLock` keeps `links`. -/
@[simp] theorem State.setLinkLock_links (v : Nat) (s : State) :
    (s.setLinkLock v).links = s.links := rfl
/-- `setLinkLock` sets `linkLock`. -/
@[simp] theorem State.setLinkLock_linkLock (v : Nat) (s : State) :
    (s.setLinkLock v).linkLock = v := rfl
/-- `setLinkLock` keeps `zones`. -/
@[simp] theorem State.setLinkLock_zones (v : Nat) (s : State) :
    (s.setLinkLock v).zones = s.zones := rfl
/-- `setLinkLock` keeps `beams`. -/
@[simp] theorem State.setLinkLock_beams (v : Nat) (s : State) :
    (s.setLinkLock v).beams = s.beams := rfl
/-- `setLinkLock` keeps `segs`. -/
@[simp] theorem State.setLinkLock_segs (v : Nat) (s : State) :
    (s.setLinkLock v).segs = s.segs := rfl
/-- `setLinkLock` keeps `pool`. -/
@[simp] theorem State.setLinkLock_pool (v : Nat) (s : State) :
    (s.setLinkLock v).pool = s.pool := rfl
/-- `setLinkLock` keeps `mem`. -/
@[simp] theorem State.setLinkLock_mem (v : Nat) (s : State) :
    (s.setLinkLock v).mem = s.mem := rfl
/-- `setLinkLock` keeps `work`. -/
@[simp] theorem State.setLinkLock_work (v : Nat) (s : State) :
    (s.setLinkLock v).work = s.work := rfl
/-- `setLinkLock` keeps `sched`. -/
@[simp] theorem State.setLinkLock_sched (v : Nat) (s : State) :
    (s.setLinkLock v).sched = s.sched := rfl
/-- `setLinkLock` keeps `jobs`. -/
@[simp] theorem State.setLinkLock_jobs (v : Nat) (s : State) :
    (s.setLinkLock v).jobs = s.jobs := rfl
/-- `setLinkLock` keeps `port`. -/
@[simp] theorem State.setLinkLock_port (v : Nat) (s : State) :
    (s.setLinkLock v).port = s.port := rfl
/-- `setLinkLock` keeps `writeHold`. -/
@[simp] theorem State.setLinkLock_writeHold (v : Nat) (s : State) :
    (s.setLinkLock v).writeHold = s.writeHold := rfl
/-- `setLinkLock` keeps `draws`. -/
@[simp] theorem State.setLinkLock_draws (v : Nat) (s : State) :
    (s.setLinkLock v).draws = s.draws := rfl
/-- `setLinkLock` keeps `pending`. -/
@[simp] theorem State.setLinkLock_pending (v : Nat) (s : State) :
    (s.setLinkLock v).pending = s.pending := rfl

/-! ## modZone -/

/-- `modZone` keeps `timer`. -/
@[simp] theorem State.modZone_timer (z : Zone) (f : ZoneState → ZoneState) (s : State) :
    (s.modZone z f).timer = s.timer := rfl
/-- `modZone` keeps `capture`. -/
@[simp] theorem State.modZone_capture (z : Zone) (f : ZoneState → ZoneState) (s : State) :
    (s.modZone z f).capture = s.capture := rfl
/-- `modZone` keeps `speaker`. -/
@[simp] theorem State.modZone_speaker (z : Zone) (f : ZoneState → ZoneState) (s : State) :
    (s.modZone z f).speaker = s.speaker := rfl
/-- `modZone` keeps `links`. -/
@[simp] theorem State.modZone_links (z : Zone) (f : ZoneState → ZoneState) (s : State) :
    (s.modZone z f).links = s.links := rfl
/-- `modZone` keeps `linkLock`. -/
@[simp] theorem State.modZone_linkLock (z : Zone) (f : ZoneState → ZoneState) (s : State) :
    (s.modZone z f).linkLock = s.linkLock := rfl
/-- `modZone` sets `zones`. -/
@[simp] theorem State.modZone_zones (z : Zone) (f : ZoneState → ZoneState) (s : State) :
    (s.modZone z f).zones = s.zones.set z (f s.zones[z]) := rfl
/-- `modZone` keeps `beams`. -/
@[simp] theorem State.modZone_beams (z : Zone) (f : ZoneState → ZoneState) (s : State) :
    (s.modZone z f).beams = s.beams := rfl
/-- `modZone` keeps `segs`. -/
@[simp] theorem State.modZone_segs (z : Zone) (f : ZoneState → ZoneState) (s : State) :
    (s.modZone z f).segs = s.segs := rfl
/-- `modZone` keeps `pool`. -/
@[simp] theorem State.modZone_pool (z : Zone) (f : ZoneState → ZoneState) (s : State) :
    (s.modZone z f).pool = s.pool := rfl
/-- `modZone` keeps `mem`. -/
@[simp] theorem State.modZone_mem (z : Zone) (f : ZoneState → ZoneState) (s : State) :
    (s.modZone z f).mem = s.mem := rfl
/-- `modZone` keeps `work`. -/
@[simp] theorem State.modZone_work (z : Zone) (f : ZoneState → ZoneState) (s : State) :
    (s.modZone z f).work = s.work := rfl
/-- `modZone` keeps `sched`. -/
@[simp] theorem State.modZone_sched (z : Zone) (f : ZoneState → ZoneState) (s : State) :
    (s.modZone z f).sched = s.sched := rfl
/-- `modZone` keeps `jobs`. -/
@[simp] theorem State.modZone_jobs (z : Zone) (f : ZoneState → ZoneState) (s : State) :
    (s.modZone z f).jobs = s.jobs := rfl
/-- `modZone` keeps `port`. -/
@[simp] theorem State.modZone_port (z : Zone) (f : ZoneState → ZoneState) (s : State) :
    (s.modZone z f).port = s.port := rfl
/-- `modZone` keeps `writeHold`. -/
@[simp] theorem State.modZone_writeHold (z : Zone) (f : ZoneState → ZoneState) (s : State) :
    (s.modZone z f).writeHold = s.writeHold := rfl
/-- `modZone` keeps `draws`. -/
@[simp] theorem State.modZone_draws (z : Zone) (f : ZoneState → ZoneState) (s : State) :
    (s.modZone z f).draws = s.draws := rfl
/-- `modZone` keeps `pending`. -/
@[simp] theorem State.modZone_pending (z : Zone) (f : ZoneState → ZoneState) (s : State) :
    (s.modZone z f).pending = s.pending := rfl

/-! ## mapZones -/

/-- `mapZones` keeps `timer`. -/
@[simp] theorem State.mapZones_timer (f : ZoneState → ZoneState) (s : State) :
    (s.mapZones f).timer = s.timer := rfl
/-- `mapZones` keeps `capture`. -/
@[simp] theorem State.mapZones_capture (f : ZoneState → ZoneState) (s : State) :
    (s.mapZones f).capture = s.capture := rfl
/-- `mapZones` keeps `speaker`. -/
@[simp] theorem State.mapZones_speaker (f : ZoneState → ZoneState) (s : State) :
    (s.mapZones f).speaker = s.speaker := rfl
/-- `mapZones` keeps `links`. -/
@[simp] theorem State.mapZones_links (f : ZoneState → ZoneState) (s : State) :
    (s.mapZones f).links = s.links := rfl
/-- `mapZones` keeps `linkLock`. -/
@[simp] theorem State.mapZones_linkLock (f : ZoneState → ZoneState) (s : State) :
    (s.mapZones f).linkLock = s.linkLock := rfl
/-- `mapZones` sets `zones`. -/
@[simp] theorem State.mapZones_zones (f : ZoneState → ZoneState) (s : State) :
    (s.mapZones f).zones = vmap f s.zones := rfl
/-- `mapZones` keeps `beams`. -/
@[simp] theorem State.mapZones_beams (f : ZoneState → ZoneState) (s : State) :
    (s.mapZones f).beams = s.beams := rfl
/-- `mapZones` keeps `segs`. -/
@[simp] theorem State.mapZones_segs (f : ZoneState → ZoneState) (s : State) :
    (s.mapZones f).segs = s.segs := rfl
/-- `mapZones` keeps `pool`. -/
@[simp] theorem State.mapZones_pool (f : ZoneState → ZoneState) (s : State) :
    (s.mapZones f).pool = s.pool := rfl
/-- `mapZones` keeps `mem`. -/
@[simp] theorem State.mapZones_mem (f : ZoneState → ZoneState) (s : State) :
    (s.mapZones f).mem = s.mem := rfl
/-- `mapZones` keeps `work`. -/
@[simp] theorem State.mapZones_work (f : ZoneState → ZoneState) (s : State) :
    (s.mapZones f).work = s.work := rfl
/-- `mapZones` keeps `sched`. -/
@[simp] theorem State.mapZones_sched (f : ZoneState → ZoneState) (s : State) :
    (s.mapZones f).sched = s.sched := rfl
/-- `mapZones` keeps `jobs`. -/
@[simp] theorem State.mapZones_jobs (f : ZoneState → ZoneState) (s : State) :
    (s.mapZones f).jobs = s.jobs := rfl
/-- `mapZones` keeps `port`. -/
@[simp] theorem State.mapZones_port (f : ZoneState → ZoneState) (s : State) :
    (s.mapZones f).port = s.port := rfl
/-- `mapZones` keeps `writeHold`. -/
@[simp] theorem State.mapZones_writeHold (f : ZoneState → ZoneState) (s : State) :
    (s.mapZones f).writeHold = s.writeHold := rfl
/-- `mapZones` keeps `draws`. -/
@[simp] theorem State.mapZones_draws (f : ZoneState → ZoneState) (s : State) :
    (s.mapZones f).draws = s.draws := rfl
/-- `mapZones` keeps `pending`. -/
@[simp] theorem State.mapZones_pending (f : ZoneState → ZoneState) (s : State) :
    (s.mapZones f).pending = s.pending := rfl

/-! ## modBeam -/

/-- `modBeam` keeps `timer`. -/
@[simp] theorem State.modBeam_timer (b : Beam) (f : BeamState → BeamState) (s : State) :
    (s.modBeam b f).timer = s.timer := rfl
/-- `modBeam` keeps `capture`. -/
@[simp] theorem State.modBeam_capture (b : Beam) (f : BeamState → BeamState) (s : State) :
    (s.modBeam b f).capture = s.capture := rfl
/-- `modBeam` keeps `speaker`. -/
@[simp] theorem State.modBeam_speaker (b : Beam) (f : BeamState → BeamState) (s : State) :
    (s.modBeam b f).speaker = s.speaker := rfl
/-- `modBeam` keeps `links`. -/
@[simp] theorem State.modBeam_links (b : Beam) (f : BeamState → BeamState) (s : State) :
    (s.modBeam b f).links = s.links := rfl
/-- `modBeam` keeps `linkLock`. -/
@[simp] theorem State.modBeam_linkLock (b : Beam) (f : BeamState → BeamState) (s : State) :
    (s.modBeam b f).linkLock = s.linkLock := rfl
/-- `modBeam` keeps `zones`. -/
@[simp] theorem State.modBeam_zones (b : Beam) (f : BeamState → BeamState) (s : State) :
    (s.modBeam b f).zones = s.zones := rfl
/-- `modBeam` sets `beams`. -/
@[simp] theorem State.modBeam_beams (b : Beam) (f : BeamState → BeamState) (s : State) :
    (s.modBeam b f).beams = s.beams.set b (f s.beams[b]) := rfl
/-- `modBeam` keeps `segs`. -/
@[simp] theorem State.modBeam_segs (b : Beam) (f : BeamState → BeamState) (s : State) :
    (s.modBeam b f).segs = s.segs := rfl
/-- `modBeam` keeps `pool`. -/
@[simp] theorem State.modBeam_pool (b : Beam) (f : BeamState → BeamState) (s : State) :
    (s.modBeam b f).pool = s.pool := rfl
/-- `modBeam` keeps `mem`. -/
@[simp] theorem State.modBeam_mem (b : Beam) (f : BeamState → BeamState) (s : State) :
    (s.modBeam b f).mem = s.mem := rfl
/-- `modBeam` keeps `work`. -/
@[simp] theorem State.modBeam_work (b : Beam) (f : BeamState → BeamState) (s : State) :
    (s.modBeam b f).work = s.work := rfl
/-- `modBeam` keeps `sched`. -/
@[simp] theorem State.modBeam_sched (b : Beam) (f : BeamState → BeamState) (s : State) :
    (s.modBeam b f).sched = s.sched := rfl
/-- `modBeam` keeps `jobs`. -/
@[simp] theorem State.modBeam_jobs (b : Beam) (f : BeamState → BeamState) (s : State) :
    (s.modBeam b f).jobs = s.jobs := rfl
/-- `modBeam` keeps `port`. -/
@[simp] theorem State.modBeam_port (b : Beam) (f : BeamState → BeamState) (s : State) :
    (s.modBeam b f).port = s.port := rfl
/-- `modBeam` keeps `writeHold`. -/
@[simp] theorem State.modBeam_writeHold (b : Beam) (f : BeamState → BeamState) (s : State) :
    (s.modBeam b f).writeHold = s.writeHold := rfl
/-- `modBeam` keeps `draws`. -/
@[simp] theorem State.modBeam_draws (b : Beam) (f : BeamState → BeamState) (s : State) :
    (s.modBeam b f).draws = s.draws := rfl
/-- `modBeam` keeps `pending`. -/
@[simp] theorem State.modBeam_pending (b : Beam) (f : BeamState → BeamState) (s : State) :
    (s.modBeam b f).pending = s.pending := rfl

/-! ## mapBeams -/

/-- `mapBeams` keeps `timer`. -/
@[simp] theorem State.mapBeams_timer (f : BeamState → BeamState) (s : State) :
    (s.mapBeams f).timer = s.timer := rfl
/-- `mapBeams` keeps `capture`. -/
@[simp] theorem State.mapBeams_capture (f : BeamState → BeamState) (s : State) :
    (s.mapBeams f).capture = s.capture := rfl
/-- `mapBeams` keeps `speaker`. -/
@[simp] theorem State.mapBeams_speaker (f : BeamState → BeamState) (s : State) :
    (s.mapBeams f).speaker = s.speaker := rfl
/-- `mapBeams` keeps `links`. -/
@[simp] theorem State.mapBeams_links (f : BeamState → BeamState) (s : State) :
    (s.mapBeams f).links = s.links := rfl
/-- `mapBeams` keeps `linkLock`. -/
@[simp] theorem State.mapBeams_linkLock (f : BeamState → BeamState) (s : State) :
    (s.mapBeams f).linkLock = s.linkLock := rfl
/-- `mapBeams` keeps `zones`. -/
@[simp] theorem State.mapBeams_zones (f : BeamState → BeamState) (s : State) :
    (s.mapBeams f).zones = s.zones := rfl
/-- `mapBeams` sets `beams`. -/
@[simp] theorem State.mapBeams_beams (f : BeamState → BeamState) (s : State) :
    (s.mapBeams f).beams = vmap f s.beams := rfl
/-- `mapBeams` keeps `segs`. -/
@[simp] theorem State.mapBeams_segs (f : BeamState → BeamState) (s : State) :
    (s.mapBeams f).segs = s.segs := rfl
/-- `mapBeams` keeps `pool`. -/
@[simp] theorem State.mapBeams_pool (f : BeamState → BeamState) (s : State) :
    (s.mapBeams f).pool = s.pool := rfl
/-- `mapBeams` keeps `mem`. -/
@[simp] theorem State.mapBeams_mem (f : BeamState → BeamState) (s : State) :
    (s.mapBeams f).mem = s.mem := rfl
/-- `mapBeams` keeps `work`. -/
@[simp] theorem State.mapBeams_work (f : BeamState → BeamState) (s : State) :
    (s.mapBeams f).work = s.work := rfl
/-- `mapBeams` keeps `sched`. -/
@[simp] theorem State.mapBeams_sched (f : BeamState → BeamState) (s : State) :
    (s.mapBeams f).sched = s.sched := rfl
/-- `mapBeams` keeps `jobs`. -/
@[simp] theorem State.mapBeams_jobs (f : BeamState → BeamState) (s : State) :
    (s.mapBeams f).jobs = s.jobs := rfl
/-- `mapBeams` keeps `port`. -/
@[simp] theorem State.mapBeams_port (f : BeamState → BeamState) (s : State) :
    (s.mapBeams f).port = s.port := rfl
/-- `mapBeams` keeps `writeHold`. -/
@[simp] theorem State.mapBeams_writeHold (f : BeamState → BeamState) (s : State) :
    (s.mapBeams f).writeHold = s.writeHold := rfl
/-- `mapBeams` keeps `draws`. -/
@[simp] theorem State.mapBeams_draws (f : BeamState → BeamState) (s : State) :
    (s.mapBeams f).draws = s.draws := rfl
/-- `mapBeams` keeps `pending`. -/
@[simp] theorem State.mapBeams_pending (f : BeamState → BeamState) (s : State) :
    (s.mapBeams f).pending = s.pending := rfl

/-! ## setSegs -/

/-- `setSegs` keeps `timer`. -/
@[simp] theorem State.setSegs_timer (v : List Segment) (s : State) :
    (s.setSegs v).timer = s.timer := rfl
/-- `setSegs` keeps `capture`. -/
@[simp] theorem State.setSegs_capture (v : List Segment) (s : State) :
    (s.setSegs v).capture = s.capture := rfl
/-- `setSegs` keeps `speaker`. -/
@[simp] theorem State.setSegs_speaker (v : List Segment) (s : State) :
    (s.setSegs v).speaker = s.speaker := rfl
/-- `setSegs` keeps `links`. -/
@[simp] theorem State.setSegs_links (v : List Segment) (s : State) :
    (s.setSegs v).links = s.links := rfl
/-- `setSegs` keeps `linkLock`. -/
@[simp] theorem State.setSegs_linkLock (v : List Segment) (s : State) :
    (s.setSegs v).linkLock = s.linkLock := rfl
/-- `setSegs` keeps `zones`. -/
@[simp] theorem State.setSegs_zones (v : List Segment) (s : State) :
    (s.setSegs v).zones = s.zones := rfl
/-- `setSegs` keeps `beams`. -/
@[simp] theorem State.setSegs_beams (v : List Segment) (s : State) :
    (s.setSegs v).beams = s.beams := rfl
/-- `setSegs` sets `segs`. -/
@[simp] theorem State.setSegs_segs (v : List Segment) (s : State) :
    (s.setSegs v).segs = v := rfl
/-- `setSegs` keeps `pool`. -/
@[simp] theorem State.setSegs_pool (v : List Segment) (s : State) :
    (s.setSegs v).pool = s.pool := rfl
/-- `setSegs` keeps `mem`. -/
@[simp] theorem State.setSegs_mem (v : List Segment) (s : State) :
    (s.setSegs v).mem = s.mem := rfl
/-- `setSegs` keeps `work`. -/
@[simp] theorem State.setSegs_work (v : List Segment) (s : State) :
    (s.setSegs v).work = s.work := rfl
/-- `setSegs` keeps `sched`. -/
@[simp] theorem State.setSegs_sched (v : List Segment) (s : State) :
    (s.setSegs v).sched = s.sched := rfl
/-- `setSegs` keeps `jobs`. -/
@[simp] theorem State.setSegs_jobs (v : List Segment) (s : State) :
    (s.setSegs v).jobs = s.jobs := rfl
/-- `setSegs` keeps `port`. -/
@[simp] theorem State.setSegs_port (v : List Segment) (s : State) :
    (s.setSegs v).port = s.port := rfl
/-- `setSegs` keeps `writeHold`. -/
@[simp] theorem State.setSegs_writeHold (v : List Segment) (s : State) :
    (s.setSegs v).writeHold = s.writeHold := rfl
/-- `setSegs` keeps `draws`. -/
@[simp] theorem State.setSegs_draws (v : List Segment) (s : State) :
    (s.setSegs v).draws = s.draws := rfl
/-- `setSegs` keeps `pending`. -/
@[simp] theorem State.setSegs_pending (v : List Segment) (s : State) :
    (s.setSegs v).pending = s.pending := rfl

/-! ## modPool -/

/-- `modPool` keeps `timer`. -/
@[simp] theorem State.modPool_timer (f : Pool → Pool) (s : State) :
    (s.modPool f).timer = s.timer := rfl
/-- `modPool` keeps `capture`. -/
@[simp] theorem State.modPool_capture (f : Pool → Pool) (s : State) :
    (s.modPool f).capture = s.capture := rfl
/-- `modPool` keeps `speaker`. -/
@[simp] theorem State.modPool_speaker (f : Pool → Pool) (s : State) :
    (s.modPool f).speaker = s.speaker := rfl
/-- `modPool` keeps `links`. -/
@[simp] theorem State.modPool_links (f : Pool → Pool) (s : State) :
    (s.modPool f).links = s.links := rfl
/-- `modPool` keeps `linkLock`. -/
@[simp] theorem State.modPool_linkLock (f : Pool → Pool) (s : State) :
    (s.modPool f).linkLock = s.linkLock := rfl
/-- `modPool` keeps `zones`. -/
@[simp] theorem State.modPool_zones (f : Pool → Pool) (s : State) :
    (s.modPool f).zones = s.zones := rfl
/-- `modPool` keeps `beams`. -/
@[simp] theorem State.modPool_beams (f : Pool → Pool) (s : State) :
    (s.modPool f).beams = s.beams := rfl
/-- `modPool` keeps `segs`. -/
@[simp] theorem State.modPool_segs (f : Pool → Pool) (s : State) :
    (s.modPool f).segs = s.segs := rfl
/-- `modPool` sets `pool`. -/
@[simp] theorem State.modPool_pool (f : Pool → Pool) (s : State) :
    (s.modPool f).pool = f s.pool := rfl
/-- `modPool` keeps `mem`. -/
@[simp] theorem State.modPool_mem (f : Pool → Pool) (s : State) :
    (s.modPool f).mem = s.mem := rfl
/-- `modPool` keeps `work`. -/
@[simp] theorem State.modPool_work (f : Pool → Pool) (s : State) :
    (s.modPool f).work = s.work := rfl
/-- `modPool` keeps `sched`. -/
@[simp] theorem State.modPool_sched (f : Pool → Pool) (s : State) :
    (s.modPool f).sched = s.sched := rfl
/-- `modPool` keeps `jobs`. -/
@[simp] theorem State.modPool_jobs (f : Pool → Pool) (s : State) :
    (s.modPool f).jobs = s.jobs := rfl
/-- `modPool` keeps `port`. -/
@[simp] theorem State.modPool_port (f : Pool → Pool) (s : State) :
    (s.modPool f).port = s.port := rfl
/-- `modPool` keeps `writeHold`. -/
@[simp] theorem State.modPool_writeHold (f : Pool → Pool) (s : State) :
    (s.modPool f).writeHold = s.writeHold := rfl
/-- `modPool` keeps `draws`. -/
@[simp] theorem State.modPool_draws (f : Pool → Pool) (s : State) :
    (s.modPool f).draws = s.draws := rfl
/-- `modPool` keeps `pending`. -/
@[simp] theorem State.modPool_pending (f : Pool → Pool) (s : State) :
    (s.modPool f).pending = s.pending := rfl

/-! ## setMem -/

/-- `setMem` keeps `timer`. -/
@[simp] theorem State.setMem_timer (v : List Host.Cell) (s : State) :
    (s.setMem v).timer = s.timer := rfl
/-- `setMem` keeps `capture`. -/
@[simp] theorem State.setMem_capture (v : List Host.Cell) (s : State) :
    (s.setMem v).capture = s.capture := rfl
/-- `setMem` keeps `speaker`. -/
@[simp] theorem State.setMem_speaker (v : List Host.Cell) (s : State) :
    (s.setMem v).speaker = s.speaker := rfl
/-- `setMem` keeps `links`. -/
@[simp] theorem State.setMem_links (v : List Host.Cell) (s : State) :
    (s.setMem v).links = s.links := rfl
/-- `setMem` keeps `linkLock`. -/
@[simp] theorem State.setMem_linkLock (v : List Host.Cell) (s : State) :
    (s.setMem v).linkLock = s.linkLock := rfl
/-- `setMem` keeps `zones`. -/
@[simp] theorem State.setMem_zones (v : List Host.Cell) (s : State) :
    (s.setMem v).zones = s.zones := rfl
/-- `setMem` keeps `beams`. -/
@[simp] theorem State.setMem_beams (v : List Host.Cell) (s : State) :
    (s.setMem v).beams = s.beams := rfl
/-- `setMem` keeps `segs`. -/
@[simp] theorem State.setMem_segs (v : List Host.Cell) (s : State) :
    (s.setMem v).segs = s.segs := rfl
/-- `setMem` keeps `pool`. -/
@[simp] theorem State.setMem_pool (v : List Host.Cell) (s : State) :
    (s.setMem v).pool = s.pool := rfl
/-- `setMem` sets `mem`. -/
@[simp] theorem State.setMem_mem (v : List Host.Cell) (s : State) :
    (s.setMem v).mem = v := rfl
/-- `setMem` keeps `work`. -/
@[simp] theorem State.setMem_work (v : List Host.Cell) (s : State) :
    (s.setMem v).work = s.work := rfl
/-- `setMem` keeps `sched`. -/
@[simp] theorem State.setMem_sched (v : List Host.Cell) (s : State) :
    (s.setMem v).sched = s.sched := rfl
/-- `setMem` keeps `jobs`. -/
@[simp] theorem State.setMem_jobs (v : List Host.Cell) (s : State) :
    (s.setMem v).jobs = s.jobs := rfl
/-- `setMem` keeps `port`. -/
@[simp] theorem State.setMem_port (v : List Host.Cell) (s : State) :
    (s.setMem v).port = s.port := rfl
/-- `setMem` keeps `writeHold`. -/
@[simp] theorem State.setMem_writeHold (v : List Host.Cell) (s : State) :
    (s.setMem v).writeHold = s.writeHold := rfl
/-- `setMem` keeps `draws`. -/
@[simp] theorem State.setMem_draws (v : List Host.Cell) (s : State) :
    (s.setMem v).draws = s.draws := rfl
/-- `setMem` keeps `pending`. -/
@[simp] theorem State.setMem_pending (v : List Host.Cell) (s : State) :
    (s.setMem v).pending = s.pending := rfl

/-! ## modWork -/

/-- `modWork` keeps `timer`. -/
@[simp] theorem State.modWork_timer (f : Work → Work) (s : State) :
    (s.modWork f).timer = s.timer := rfl
/-- `modWork` keeps `capture`. -/
@[simp] theorem State.modWork_capture (f : Work → Work) (s : State) :
    (s.modWork f).capture = s.capture := rfl
/-- `modWork` keeps `speaker`. -/
@[simp] theorem State.modWork_speaker (f : Work → Work) (s : State) :
    (s.modWork f).speaker = s.speaker := rfl
/-- `modWork` keeps `links`. -/
@[simp] theorem State.modWork_links (f : Work → Work) (s : State) :
    (s.modWork f).links = s.links := rfl
/-- `modWork` keeps `linkLock`. -/
@[simp] theorem State.modWork_linkLock (f : Work → Work) (s : State) :
    (s.modWork f).linkLock = s.linkLock := rfl
/-- `modWork` keeps `zones`. -/
@[simp] theorem State.modWork_zones (f : Work → Work) (s : State) :
    (s.modWork f).zones = s.zones := rfl
/-- `modWork` keeps `beams`. -/
@[simp] theorem State.modWork_beams (f : Work → Work) (s : State) :
    (s.modWork f).beams = s.beams := rfl
/-- `modWork` keeps `segs`. -/
@[simp] theorem State.modWork_segs (f : Work → Work) (s : State) :
    (s.modWork f).segs = s.segs := rfl
/-- `modWork` keeps `pool`. -/
@[simp] theorem State.modWork_pool (f : Work → Work) (s : State) :
    (s.modWork f).pool = s.pool := rfl
/-- `modWork` keeps `mem`. -/
@[simp] theorem State.modWork_mem (f : Work → Work) (s : State) :
    (s.modWork f).mem = s.mem := rfl
/-- `modWork` sets `work`. -/
@[simp] theorem State.modWork_work (f : Work → Work) (s : State) :
    (s.modWork f).work = f s.work := rfl
/-- `modWork` keeps `sched`. -/
@[simp] theorem State.modWork_sched (f : Work → Work) (s : State) :
    (s.modWork f).sched = s.sched := rfl
/-- `modWork` keeps `jobs`. -/
@[simp] theorem State.modWork_jobs (f : Work → Work) (s : State) :
    (s.modWork f).jobs = s.jobs := rfl
/-- `modWork` keeps `port`. -/
@[simp] theorem State.modWork_port (f : Work → Work) (s : State) :
    (s.modWork f).port = s.port := rfl
/-- `modWork` keeps `writeHold`. -/
@[simp] theorem State.modWork_writeHold (f : Work → Work) (s : State) :
    (s.modWork f).writeHold = s.writeHold := rfl
/-- `modWork` keeps `draws`. -/
@[simp] theorem State.modWork_draws (f : Work → Work) (s : State) :
    (s.modWork f).draws = s.draws := rfl
/-- `modWork` keeps `pending`. -/
@[simp] theorem State.modWork_pending (f : Work → Work) (s : State) :
    (s.modWork f).pending = s.pending := rfl

/-! ## modSched -/

/-- `modSched` keeps `timer`. -/
@[simp] theorem State.modSched_timer (f : Scheduler → Scheduler) (s : State) :
    (s.modSched f).timer = s.timer := rfl
/-- `modSched` keeps `capture`. -/
@[simp] theorem State.modSched_capture (f : Scheduler → Scheduler) (s : State) :
    (s.modSched f).capture = s.capture := rfl
/-- `modSched` keeps `speaker`. -/
@[simp] theorem State.modSched_speaker (f : Scheduler → Scheduler) (s : State) :
    (s.modSched f).speaker = s.speaker := rfl
/-- `modSched` keeps `links`. -/
@[simp] theorem State.modSched_links (f : Scheduler → Scheduler) (s : State) :
    (s.modSched f).links = s.links := rfl
/-- `modSched` keeps `linkLock`. -/
@[simp] theorem State.modSched_linkLock (f : Scheduler → Scheduler) (s : State) :
    (s.modSched f).linkLock = s.linkLock := rfl
/-- `modSched` keeps `zones`. -/
@[simp] theorem State.modSched_zones (f : Scheduler → Scheduler) (s : State) :
    (s.modSched f).zones = s.zones := rfl
/-- `modSched` keeps `beams`. -/
@[simp] theorem State.modSched_beams (f : Scheduler → Scheduler) (s : State) :
    (s.modSched f).beams = s.beams := rfl
/-- `modSched` keeps `segs`. -/
@[simp] theorem State.modSched_segs (f : Scheduler → Scheduler) (s : State) :
    (s.modSched f).segs = s.segs := rfl
/-- `modSched` keeps `pool`. -/
@[simp] theorem State.modSched_pool (f : Scheduler → Scheduler) (s : State) :
    (s.modSched f).pool = s.pool := rfl
/-- `modSched` keeps `mem`. -/
@[simp] theorem State.modSched_mem (f : Scheduler → Scheduler) (s : State) :
    (s.modSched f).mem = s.mem := rfl
/-- `modSched` keeps `work`. -/
@[simp] theorem State.modSched_work (f : Scheduler → Scheduler) (s : State) :
    (s.modSched f).work = s.work := rfl
/-- `modSched` sets `sched`. -/
@[simp] theorem State.modSched_sched (f : Scheduler → Scheduler) (s : State) :
    (s.modSched f).sched = f s.sched := rfl
/-- `modSched` keeps `jobs`. -/
@[simp] theorem State.modSched_jobs (f : Scheduler → Scheduler) (s : State) :
    (s.modSched f).jobs = s.jobs := rfl
/-- `modSched` keeps `port`. -/
@[simp] theorem State.modSched_port (f : Scheduler → Scheduler) (s : State) :
    (s.modSched f).port = s.port := rfl
/-- `modSched` keeps `writeHold`. -/
@[simp] theorem State.modSched_writeHold (f : Scheduler → Scheduler) (s : State) :
    (s.modSched f).writeHold = s.writeHold := rfl
/-- `modSched` keeps `draws`. -/
@[simp] theorem State.modSched_draws (f : Scheduler → Scheduler) (s : State) :
    (s.modSched f).draws = s.draws := rfl
/-- `modSched` keeps `pending`. -/
@[simp] theorem State.modSched_pending (f : Scheduler → Scheduler) (s : State) :
    (s.modSched f).pending = s.pending := rfl

/-! ## setJobs -/

/-- `setJobs` keeps `timer`. -/
@[simp] theorem State.setJobs_timer (v : List Job) (s : State) :
    (s.setJobs v).timer = s.timer := rfl
/-- `setJobs` keeps `capture`. -/
@[simp] theorem State.setJobs_capture (v : List Job) (s : State) :
    (s.setJobs v).capture = s.capture := rfl
/-- `setJobs` keeps `speaker`. -/
@[simp] theorem State.setJobs_speaker (v : List Job) (s : State) :
    (s.setJobs v).speaker = s.speaker := rfl
/-- `setJobs` keeps `links`. -/
@[simp] theorem State.setJobs_links (v : List Job) (s : State) :
    (s.setJobs v).links = s.links := rfl
/-- `setJobs` keeps `linkLock`. -/
@[simp] theorem State.setJobs_linkLock (v : List Job) (s : State) :
    (s.setJobs v).linkLock = s.linkLock := rfl
/-- `setJobs` keeps `zones`. -/
@[simp] theorem State.setJobs_zones (v : List Job) (s : State) :
    (s.setJobs v).zones = s.zones := rfl
/-- `setJobs` keeps `beams`. -/
@[simp] theorem State.setJobs_beams (v : List Job) (s : State) :
    (s.setJobs v).beams = s.beams := rfl
/-- `setJobs` keeps `segs`. -/
@[simp] theorem State.setJobs_segs (v : List Job) (s : State) :
    (s.setJobs v).segs = s.segs := rfl
/-- `setJobs` keeps `pool`. -/
@[simp] theorem State.setJobs_pool (v : List Job) (s : State) :
    (s.setJobs v).pool = s.pool := rfl
/-- `setJobs` keeps `mem`. -/
@[simp] theorem State.setJobs_mem (v : List Job) (s : State) :
    (s.setJobs v).mem = s.mem := rfl
/-- `setJobs` keeps `work`. -/
@[simp] theorem State.setJobs_work (v : List Job) (s : State) :
    (s.setJobs v).work = s.work := rfl
/-- `setJobs` keeps `sched`. -/
@[simp] theorem State.setJobs_sched (v : List Job) (s : State) :
    (s.setJobs v).sched = s.sched := rfl
/-- `setJobs` sets `jobs`. -/
@[simp] theorem State.setJobs_jobs (v : List Job) (s : State) :
    (s.setJobs v).jobs = v := rfl
/-- `setJobs` keeps `port`. -/
@[simp] theorem State.setJobs_port (v : List Job) (s : State) :
    (s.setJobs v).port = s.port := rfl
/-- `setJobs` keeps `writeHold`. -/
@[simp] theorem State.setJobs_writeHold (v : List Job) (s : State) :
    (s.setJobs v).writeHold = s.writeHold := rfl
/-- `setJobs` keeps `draws`. -/
@[simp] theorem State.setJobs_draws (v : List Job) (s : State) :
    (s.setJobs v).draws = s.draws := rfl
/-- `setJobs` keeps `pending`. -/
@[simp] theorem State.setJobs_pending (v : List Job) (s : State) :
    (s.setJobs v).pending = s.pending := rfl

/-! ## modPort -/

/-- `modPort` keeps `timer`. -/
@[simp] theorem State.modPort_timer (f : Port → Port) (s : State) :
    (s.modPort f).timer = s.timer := rfl
/-- `modPort` keeps `capture`. -/
@[simp] theorem State.modPort_capture (f : Port → Port) (s : State) :
    (s.modPort f).capture = s.capture := rfl
/-- `modPort` keeps `speaker`. -/
@[simp] theorem State.modPort_speaker (f : Port → Port) (s : State) :
    (s.modPort f).speaker = s.speaker := rfl
/-- `modPort` keeps `links`. -/
@[simp] theorem State.modPort_links (f : Port → Port) (s : State) :
    (s.modPort f).links = s.links := rfl
/-- `modPort` keeps `linkLock`. -/
@[simp] theorem State.modPort_linkLock (f : Port → Port) (s : State) :
    (s.modPort f).linkLock = s.linkLock := rfl
/-- `modPort` keeps `zones`. -/
@[simp] theorem State.modPort_zones (f : Port → Port) (s : State) :
    (s.modPort f).zones = s.zones := rfl
/-- `modPort` keeps `beams`. -/
@[simp] theorem State.modPort_beams (f : Port → Port) (s : State) :
    (s.modPort f).beams = s.beams := rfl
/-- `modPort` keeps `segs`. -/
@[simp] theorem State.modPort_segs (f : Port → Port) (s : State) :
    (s.modPort f).segs = s.segs := rfl
/-- `modPort` keeps `pool`. -/
@[simp] theorem State.modPort_pool (f : Port → Port) (s : State) :
    (s.modPort f).pool = s.pool := rfl
/-- `modPort` keeps `mem`. -/
@[simp] theorem State.modPort_mem (f : Port → Port) (s : State) :
    (s.modPort f).mem = s.mem := rfl
/-- `modPort` keeps `work`. -/
@[simp] theorem State.modPort_work (f : Port → Port) (s : State) :
    (s.modPort f).work = s.work := rfl
/-- `modPort` keeps `sched`. -/
@[simp] theorem State.modPort_sched (f : Port → Port) (s : State) :
    (s.modPort f).sched = s.sched := rfl
/-- `modPort` keeps `jobs`. -/
@[simp] theorem State.modPort_jobs (f : Port → Port) (s : State) :
    (s.modPort f).jobs = s.jobs := rfl
/-- `modPort` sets `port`. -/
@[simp] theorem State.modPort_port (f : Port → Port) (s : State) :
    (s.modPort f).port = f s.port := rfl
/-- `modPort` keeps `writeHold`. -/
@[simp] theorem State.modPort_writeHold (f : Port → Port) (s : State) :
    (s.modPort f).writeHold = s.writeHold := rfl
/-- `modPort` keeps `draws`. -/
@[simp] theorem State.modPort_draws (f : Port → Port) (s : State) :
    (s.modPort f).draws = s.draws := rfl
/-- `modPort` keeps `pending`. -/
@[simp] theorem State.modPort_pending (f : Port → Port) (s : State) :
    (s.modPort f).pending = s.pending := rfl

/-! ## setWriteHold -/

/-- `setWriteHold` keeps `timer`. -/
@[simp] theorem State.setWriteHold_timer (v : BitVec 16) (s : State) :
    (s.setWriteHold v).timer = s.timer := rfl
/-- `setWriteHold` keeps `capture`. -/
@[simp] theorem State.setWriteHold_capture (v : BitVec 16) (s : State) :
    (s.setWriteHold v).capture = s.capture := rfl
/-- `setWriteHold` keeps `speaker`. -/
@[simp] theorem State.setWriteHold_speaker (v : BitVec 16) (s : State) :
    (s.setWriteHold v).speaker = s.speaker := rfl
/-- `setWriteHold` keeps `links`. -/
@[simp] theorem State.setWriteHold_links (v : BitVec 16) (s : State) :
    (s.setWriteHold v).links = s.links := rfl
/-- `setWriteHold` keeps `linkLock`. -/
@[simp] theorem State.setWriteHold_linkLock (v : BitVec 16) (s : State) :
    (s.setWriteHold v).linkLock = s.linkLock := rfl
/-- `setWriteHold` keeps `zones`. -/
@[simp] theorem State.setWriteHold_zones (v : BitVec 16) (s : State) :
    (s.setWriteHold v).zones = s.zones := rfl
/-- `setWriteHold` keeps `beams`. -/
@[simp] theorem State.setWriteHold_beams (v : BitVec 16) (s : State) :
    (s.setWriteHold v).beams = s.beams := rfl
/-- `setWriteHold` keeps `segs`. -/
@[simp] theorem State.setWriteHold_segs (v : BitVec 16) (s : State) :
    (s.setWriteHold v).segs = s.segs := rfl
/-- `setWriteHold` keeps `pool`. -/
@[simp] theorem State.setWriteHold_pool (v : BitVec 16) (s : State) :
    (s.setWriteHold v).pool = s.pool := rfl
/-- `setWriteHold` keeps `mem`. -/
@[simp] theorem State.setWriteHold_mem (v : BitVec 16) (s : State) :
    (s.setWriteHold v).mem = s.mem := rfl
/-- `setWriteHold` keeps `work`. -/
@[simp] theorem State.setWriteHold_work (v : BitVec 16) (s : State) :
    (s.setWriteHold v).work = s.work := rfl
/-- `setWriteHold` keeps `sched`. -/
@[simp] theorem State.setWriteHold_sched (v : BitVec 16) (s : State) :
    (s.setWriteHold v).sched = s.sched := rfl
/-- `setWriteHold` keeps `jobs`. -/
@[simp] theorem State.setWriteHold_jobs (v : BitVec 16) (s : State) :
    (s.setWriteHold v).jobs = s.jobs := rfl
/-- `setWriteHold` keeps `port`. -/
@[simp] theorem State.setWriteHold_port (v : BitVec 16) (s : State) :
    (s.setWriteHold v).port = s.port := rfl
/-- `setWriteHold` sets `writeHold`. -/
@[simp] theorem State.setWriteHold_writeHold (v : BitVec 16) (s : State) :
    (s.setWriteHold v).writeHold = v := rfl
/-- `setWriteHold` keeps `draws`. -/
@[simp] theorem State.setWriteHold_draws (v : BitVec 16) (s : State) :
    (s.setWriteHold v).draws = s.draws := rfl
/-- `setWriteHold` keeps `pending`. -/
@[simp] theorem State.setWriteHold_pending (v : BitVec 16) (s : State) :
    (s.setWriteHold v).pending = s.pending := rfl

/-! ## draw -/

/-- `draw` keeps `timer`. -/
@[simp] theorem State.draw_timer (s : State) :
    (s.draw).timer = s.timer := rfl
/-- `draw` keeps `capture`. -/
@[simp] theorem State.draw_capture (s : State) :
    (s.draw).capture = s.capture := rfl
/-- `draw` keeps `speaker`. -/
@[simp] theorem State.draw_speaker (s : State) :
    (s.draw).speaker = s.speaker := rfl
/-- `draw` keeps `links`. -/
@[simp] theorem State.draw_links (s : State) :
    (s.draw).links = s.links := rfl
/-- `draw` keeps `linkLock`. -/
@[simp] theorem State.draw_linkLock (s : State) :
    (s.draw).linkLock = s.linkLock := rfl
/-- `draw` keeps `zones`. -/
@[simp] theorem State.draw_zones (s : State) :
    (s.draw).zones = s.zones := rfl
/-- `draw` keeps `beams`. -/
@[simp] theorem State.draw_beams (s : State) :
    (s.draw).beams = s.beams := rfl
/-- `draw` keeps `segs`. -/
@[simp] theorem State.draw_segs (s : State) :
    (s.draw).segs = s.segs := rfl
/-- `draw` keeps `pool`. -/
@[simp] theorem State.draw_pool (s : State) :
    (s.draw).pool = s.pool := rfl
/-- `draw` keeps `mem`. -/
@[simp] theorem State.draw_mem (s : State) :
    (s.draw).mem = s.mem := rfl
/-- `draw` keeps `work`. -/
@[simp] theorem State.draw_work (s : State) :
    (s.draw).work = s.work := rfl
/-- `draw` keeps `sched`. -/
@[simp] theorem State.draw_sched (s : State) :
    (s.draw).sched = s.sched := rfl
/-- `draw` keeps `jobs`. -/
@[simp] theorem State.draw_jobs (s : State) :
    (s.draw).jobs = s.jobs := rfl
/-- `draw` keeps `port`. -/
@[simp] theorem State.draw_port (s : State) :
    (s.draw).port = s.port := rfl
/-- `draw` keeps `writeHold`. -/
@[simp] theorem State.draw_writeHold (s : State) :
    (s.draw).writeHold = s.writeHold := rfl
/-- `draw` sets `draws`. -/
@[simp] theorem State.draw_draws (s : State) :
    (s.draw).draws = s.draws + 1 := rfl
/-- `draw` keeps `pending`. -/
@[simp] theorem State.draw_pending (s : State) :
    (s.draw).pending = s.pending := rfl

/-! ## setPending -/

/-- `setPending` keeps `timer`. -/
@[simp] theorem State.setPending_timer (v : List Instr) (s : State) :
    (s.setPending v).timer = s.timer := rfl
/-- `setPending` keeps `capture`. -/
@[simp] theorem State.setPending_capture (v : List Instr) (s : State) :
    (s.setPending v).capture = s.capture := rfl
/-- `setPending` keeps `speaker`. -/
@[simp] theorem State.setPending_speaker (v : List Instr) (s : State) :
    (s.setPending v).speaker = s.speaker := rfl
/-- `setPending` keeps `links`. -/
@[simp] theorem State.setPending_links (v : List Instr) (s : State) :
    (s.setPending v).links = s.links := rfl
/-- `setPending` keeps `linkLock`. -/
@[simp] theorem State.setPending_linkLock (v : List Instr) (s : State) :
    (s.setPending v).linkLock = s.linkLock := rfl
/-- `setPending` keeps `zones`. -/
@[simp] theorem State.setPending_zones (v : List Instr) (s : State) :
    (s.setPending v).zones = s.zones := rfl
/-- `setPending` keeps `beams`. -/
@[simp] theorem State.setPending_beams (v : List Instr) (s : State) :
    (s.setPending v).beams = s.beams := rfl
/-- `setPending` keeps `segs`. -/
@[simp] theorem State.setPending_segs (v : List Instr) (s : State) :
    (s.setPending v).segs = s.segs := rfl
/-- `setPending` keeps `pool`. -/
@[simp] theorem State.setPending_pool (v : List Instr) (s : State) :
    (s.setPending v).pool = s.pool := rfl
/-- `setPending` keeps `mem`. -/
@[simp] theorem State.setPending_mem (v : List Instr) (s : State) :
    (s.setPending v).mem = s.mem := rfl
/-- `setPending` keeps `work`. -/
@[simp] theorem State.setPending_work (v : List Instr) (s : State) :
    (s.setPending v).work = s.work := rfl
/-- `setPending` keeps `sched`. -/
@[simp] theorem State.setPending_sched (v : List Instr) (s : State) :
    (s.setPending v).sched = s.sched := rfl
/-- `setPending` keeps `jobs`. -/
@[simp] theorem State.setPending_jobs (v : List Instr) (s : State) :
    (s.setPending v).jobs = s.jobs := rfl
/-- `setPending` keeps `port`. -/
@[simp] theorem State.setPending_port (v : List Instr) (s : State) :
    (s.setPending v).port = s.port := rfl
/-- `setPending` keeps `writeHold`. -/
@[simp] theorem State.setPending_writeHold (v : List Instr) (s : State) :
    (s.setPending v).writeHold = s.writeHold := rfl
/-- `setPending` keeps `draws`. -/
@[simp] theorem State.setPending_draws (v : List Instr) (s : State) :
    (s.setPending v).draws = s.draws := rfl
/-- `setPending` sets `pending`. -/
@[simp] theorem State.setPending_pending (v : List Instr) (s : State) :
    (s.setPending v).pending = v := rfl

/-- The record that `modLink` changes. -/
theorem State.modLink_self (l : Link) (f : LinkState → LinkState) (s : State) :
    (s.modLink l f).links[l] = f s.links[l] := by
  simp

/-- The records that `modLink` leaves. -/
theorem State.modLink_other (l m : Link) (f : LinkState → LinkState) (s : State) (h : m ≠ l) :
    (s.modLink l f).links[m] = s.links[m] := by
  rw [State.modLink_links, getElem_set_fin, if_neg h]

/-- Every record after `modLink`. -/
theorem State.modLink_at (l m : Link) (f : LinkState → LinkState) (s : State) :
    (s.modLink l f).links[m] = if m = l then f s.links[m] else s.links[m] := by
  rw [State.modLink_links, getElem_set_fin]
  split
  · next h => rw [h]
  · rfl

/-- The record that `modZone` changes. -/
theorem State.modZone_self (z : Zone) (f : ZoneState → ZoneState) (s : State) :
    (s.modZone z f).zones[z] = f s.zones[z] := by
  simp

/-- The records that `modZone` leaves. -/
theorem State.modZone_other (z m : Zone) (f : ZoneState → ZoneState) (s : State) (h : m ≠ z) :
    (s.modZone z f).zones[m] = s.zones[m] := by
  rw [State.modZone_zones, getElem_set_fin, if_neg h]

/-- Every record after `modZone`. -/
theorem State.modZone_at (z m : Zone) (f : ZoneState → ZoneState) (s : State) :
    (s.modZone z f).zones[m] = if m = z then f s.zones[m] else s.zones[m] := by
  rw [State.modZone_zones, getElem_set_fin]
  split
  · next h => rw [h]
  · rfl

/-- The record that `modBeam` changes. -/
theorem State.modBeam_self (b : Beam) (f : BeamState → BeamState) (s : State) :
    (s.modBeam b f).beams[b] = f s.beams[b] := by
  simp

/-- The records that `modBeam` leaves. -/
theorem State.modBeam_other (b m : Beam) (f : BeamState → BeamState) (s : State) (h : m ≠ b) :
    (s.modBeam b f).beams[m] = s.beams[m] := by
  rw [State.modBeam_beams, getElem_set_fin, if_neg h]

/-- Every record after `modBeam`. -/
theorem State.modBeam_at (b m : Beam) (f : BeamState → BeamState) (s : State) :
    (s.modBeam b f).beams[m] = if m = b then f s.beams[m] else s.beams[m] := by
  rw [State.modBeam_beams, getElem_set_fin]
  split
  · next h => rw [h]
  · rfl

/-- Two changes of one link are one. -/
theorem State.modLink_modLink (l : Link) (f g : LinkState → LinkState) (s : State) :
    (s.modLink l f).modLink l g = s.modLink l (g ∘ f) := by
  simp [State.modLink]

/-- Two changes of one beam are one. -/
theorem State.modBeam_modBeam (b : Beam) (f g : BeamState → BeamState) (s : State) :
    (s.modBeam b f).modBeam b g = s.modBeam b (g ∘ f) := by
  simp [State.modBeam]

end Sys2Proof.Machine
end

