-- ==== Sys2Proof/Laws/Frames.lean ====
section
/-! SUPPORT. What each shared operation leaves as it is. For each operation one lemma over any observer
of the state that does not see the updates the operation is made of, and from it the fields it keeps,
each a rewrite for simp, so that a reader of a kept field passes over the operation without unfolding
it. -/

namespace Sys2Proof.Machine

/-- What a step keeps, a fold of steps keeps. -/
theorem foldl_keeps {α β : Type} (g : State → α → State) (f : State → β)
    (h : ∀ s a, f (g s a) = f s) (xs : List α) (s : State) : f (xs.foldl g s) = f s := by
  induction xs generalizing s with
  | nil => rfl
  | cons x xs ih => rw [List.foldl_cons, ih, h]

/-! ## Notices, table, pool and port -/

/-- R37: raising a flag changes links only. -/
theorem State.raise_obs {β : Type} (f : State → β)
    (hLink : ∀ l g s, f (State.modLink l g s) = f s) (_hLinks : ∀ g s, f (State.mapLinks g s) = f s)
    (l : Link) (n : Notice) (s : State) : f (s.raise l n) = f s := by
  simp only [State.raise, hLink]

/-- The fields that `raise` keeps. -/
@[simp] theorem State.raise_keeps (l : Link) (n : Notice) (s : State) :
    (s.raise l n).timer = s.timer ∧ (s.raise l n).capture = s.capture ∧
    (s.raise l n).speaker = s.speaker ∧ (s.raise l n).linkLock = s.linkLock ∧
    (s.raise l n).zones = s.zones ∧ (s.raise l n).beams = s.beams ∧ (s.raise l n).segs = s.segs ∧
    (s.raise l n).pool = s.pool ∧ (s.raise l n).mem = s.mem ∧ (s.raise l n).work = s.work ∧
    (s.raise l n).sched = s.sched ∧ (s.raise l n).jobs = s.jobs ∧ (s.raise l n).port = s.port ∧
    (s.raise l n).writeHold = s.writeHold ∧ (s.raise l n).draws = s.draws ∧
    (s.raise l n).pending = s.pending := by
  and_intros <;> exact State.raise_obs _ (fun _ _ _ => rfl) (fun _ _ => rfl) l n s

/-- R37: raising a flag in all links changes links only. -/
theorem State.raiseAll_obs {β : Type} (f : State → β)
    (_hLink : ∀ l g s, f (State.modLink l g s) = f s) (hLinks : ∀ g s, f (State.mapLinks g s) = f s)
    (n : Notice) (s : State) : f (s.raiseAll n) = f s := by
  simp only [State.raiseAll, hLinks]

/-- The fields that `raiseAll` keeps. -/
@[simp] theorem State.raiseAll_keeps (n : Notice) (s : State) :
    (s.raiseAll n).timer = s.timer ∧ (s.raiseAll n).capture = s.capture ∧
    (s.raiseAll n).speaker = s.speaker ∧ (s.raiseAll n).linkLock = s.linkLock ∧
    (s.raiseAll n).zones = s.zones ∧ (s.raiseAll n).beams = s.beams ∧ (s.raiseAll n).segs = s.segs ∧
    (s.raiseAll n).pool = s.pool ∧ (s.raiseAll n).mem = s.mem ∧ (s.raiseAll n).work = s.work ∧
    (s.raiseAll n).sched = s.sched ∧ (s.raiseAll n).jobs = s.jobs ∧ (s.raiseAll n).port = s.port ∧
    (s.raiseAll n).writeHold = s.writeHold ∧ (s.raiseAll n).draws = s.draws ∧
    (s.raiseAll n).pending = s.pending := by
  and_intros <;> exact State.raiseAll_obs _ (fun _ _ _ => rfl) (fun _ _ => rfl) n s

/-- Changing an entry changes the table only. -/
theorem State.modSeg_obs {β : Type} (f : State → β)
    (hSegs : ∀ v s, f (State.setSegs v s) = f s)
    (a : SegAddr) (m : Segment → Segment) (s : State) : f (s.modSeg a m) = f s := by
  simp only [State.modSeg, hSegs]

/-- The fields that `modSeg` keeps. -/
@[simp] theorem State.modSeg_keeps (a : SegAddr) (m : Segment → Segment) (s : State) :
    (s.modSeg a m).timer = s.timer ∧ (s.modSeg a m).capture = s.capture ∧
    (s.modSeg a m).speaker = s.speaker ∧ (s.modSeg a m).links = s.links ∧
    (s.modSeg a m).linkLock = s.linkLock ∧ (s.modSeg a m).zones = s.zones ∧
    (s.modSeg a m).beams = s.beams ∧ (s.modSeg a m).pool = s.pool ∧ (s.modSeg a m).mem = s.mem ∧
    (s.modSeg a m).work = s.work ∧ (s.modSeg a m).sched = s.sched ∧ (s.modSeg a m).jobs = s.jobs ∧
    (s.modSeg a m).port = s.port ∧ (s.modSeg a m).writeHold = s.writeHold ∧
    (s.modSeg a m).draws = s.draws ∧ (s.modSeg a m).pending = s.pending := by
  and_intros <;> exact State.modSeg_obs _ (fun _ _ => rfl) a m s

/-- R68: POOL LOW changes links and pool only. -/
theorem State.noteAllocation_obs {β : Type} (f : State → β)
    (hLink : ∀ l g s, f (State.modLink l g s) = f s) (hLinks : ∀ g s, f (State.mapLinks g s) = f s)
    (hPool : ∀ g s, f (State.modPool g s) = f s)
    (n : Nat) (s : State) : f (s.noteAllocation n) = f s := by
  simp only [State.noteAllocation]
  (repeat' split) <;> simp only [State.raiseAll_obs f hLink hLinks, hPool]

/-- The fields that `noteAllocation` keeps. -/
@[simp] theorem State.noteAllocation_keeps (n : Nat) (s : State) :
    (s.noteAllocation n).timer = s.timer ∧ (s.noteAllocation n).capture = s.capture ∧
    (s.noteAllocation n).speaker = s.speaker ∧ (s.noteAllocation n).linkLock = s.linkLock ∧
    (s.noteAllocation n).zones = s.zones ∧ (s.noteAllocation n).beams = s.beams ∧
    (s.noteAllocation n).segs = s.segs ∧ (s.noteAllocation n).mem = s.mem ∧
    (s.noteAllocation n).work = s.work ∧ (s.noteAllocation n).sched = s.sched ∧
    (s.noteAllocation n).jobs = s.jobs ∧ (s.noteAllocation n).port = s.port ∧
    (s.noteAllocation n).writeHold = s.writeHold ∧ (s.noteAllocation n).draws = s.draws ∧
    (s.noteAllocation n).pending = s.pending := by
  and_intros <;> exact State.noteAllocation_obs _ (fun _ _ _ => rfl) (fun _ _ => rfl) (fun _ _ => rfl) n
    s

/-- R172: dropping entries changes the port only. -/
theorem State.dropRepairs_obs {β : Type} (f : State → β)
    (hPort : ∀ g s, f (State.modPort g s) = f s)
    (p : Page) (s : State) : f (s.dropRepairs p) = f s := by
  simp only [State.dropRepairs, hPort]

/-- The fields that `dropRepairs` keeps. -/
@[simp] theorem State.dropRepairs_keeps (p : Page) (s : State) :
    (s.dropRepairs p).timer = s.timer ∧ (s.dropRepairs p).capture = s.capture ∧
    (s.dropRepairs p).speaker = s.speaker ∧ (s.dropRepairs p).links = s.links ∧
    (s.dropRepairs p).linkLock = s.linkLock ∧ (s.dropRepairs p).zones = s.zones ∧
    (s.dropRepairs p).beams = s.beams ∧ (s.dropRepairs p).segs = s.segs ∧
    (s.dropRepairs p).pool = s.pool ∧ (s.dropRepairs p).mem = s.mem ∧ (s.dropRepairs p).work = s.work ∧
    (s.dropRepairs p).sched = s.sched ∧ (s.dropRepairs p).jobs = s.jobs ∧
    (s.dropRepairs p).writeHold = s.writeHold ∧ (s.dropRepairs p).draws = s.draws ∧
    (s.dropRepairs p).pending = s.pending := by
  and_intros <;> exact State.dropRepairs_obs _ (fun _ _ => rfl) p s

/-- R172: dropping the entries of several pages changes the port only. -/
theorem State.dropRepairsOf_obs {β : Type} (f : State → β)
    (hPort : ∀ g s, f (State.modPort g s) = f s)
    (ps : List Page) (s : State) : f (s.dropRepairsOf ps) = f s := by
  unfold State.dropRepairsOf
  exact foldl_keeps _ f (fun s x => State.dropRepairs_obs f hPort _ s) _ s

/-- The fields that `dropRepairsOf` keeps. -/
@[simp] theorem State.dropRepairsOf_keeps (ps : List Page) (s : State) :
    (s.dropRepairsOf ps).timer = s.timer ∧ (s.dropRepairsOf ps).capture = s.capture ∧
    (s.dropRepairsOf ps).speaker = s.speaker ∧ (s.dropRepairsOf ps).links = s.links ∧
    (s.dropRepairsOf ps).linkLock = s.linkLock ∧ (s.dropRepairsOf ps).zones = s.zones ∧
    (s.dropRepairsOf ps).beams = s.beams ∧ (s.dropRepairsOf ps).segs = s.segs ∧
    (s.dropRepairsOf ps).pool = s.pool ∧ (s.dropRepairsOf ps).mem = s.mem ∧
    (s.dropRepairsOf ps).work = s.work ∧ (s.dropRepairsOf ps).sched = s.sched ∧
    (s.dropRepairsOf ps).jobs = s.jobs ∧ (s.dropRepairsOf ps).writeHold = s.writeHold ∧
    (s.dropRepairsOf ps).draws = s.draws ∧ (s.dropRepairsOf ps).pending = s.pending := by
  and_intros <;> exact State.dropRepairsOf_obs _ (fun _ _ => rfl) ps s

/-- R174, step 3: a mark changes the table, the job list or a beam. -/
theorem State.markPage_obs {β : Type} (f : State → β)
    (hBeam : ∀ b g s, f (State.modBeam b g s) = f s) (hSegs : ∀ v s, f (State.setSegs v s) = f s)
    (hJobs : ∀ v s, f (State.setJobs v s) = f s)
    (p : Page) (s : State) : f (s.markPage p) = f s := by
  simp only [State.markPage]
  (repeat' split) <;> simp only [State.modSeg_obs f hSegs, hBeam, hJobs]

/-- The fields that `markPage` keeps. -/
@[simp] theorem State.markPage_keeps (p : Page) (s : State) :
    (s.markPage p).timer = s.timer ∧ (s.markPage p).capture = s.capture ∧
    (s.markPage p).speaker = s.speaker ∧ (s.markPage p).links = s.links ∧
    (s.markPage p).linkLock = s.linkLock ∧ (s.markPage p).zones = s.zones ∧
    (s.markPage p).pool = s.pool ∧ (s.markPage p).mem = s.mem ∧ (s.markPage p).work = s.work ∧
    (s.markPage p).sched = s.sched ∧ (s.markPage p).port = s.port ∧
    (s.markPage p).writeHold = s.writeHold ∧ (s.markPage p).draws = s.draws ∧
    (s.markPage p).pending = s.pending := by
  and_intros <;> exact State.markPage_obs _ (fun _ _ _ => rfl) (fun _ _ => rfl) (fun _ _ => rfl) p s

/-- R174: an uncorrectable word changes the port, the links and what it marks. -/
theorem State.uncorrectableWord_obs {β : Type} (f : State → β)
    (hLink : ∀ l g s, f (State.modLink l g s) = f s) (hLinks : ∀ g s, f (State.mapLinks g s) = f s)
    (hBeam : ∀ b g s, f (State.modBeam b g s) = f s) (hSegs : ∀ v s, f (State.setSegs v s) = f s)
    (hJobs : ∀ v s, f (State.setJobs v s) = f s) (hPort : ∀ g s, f (State.modPort g s) = f s)
    (r : Reader) (p : Page) (i : Nat) (s : State) : f (s.uncorrectableWord r p i) = f s := by
  simp only [State.uncorrectableWord, State.markPage_obs f hBeam hSegs hJobs,
    State.raiseAll_obs f hLink hLinks, hPort]

/-- The fields that `uncorrectableWord` keeps. -/
@[simp] theorem State.uncorrectableWord_keeps (r : Reader) (p : Page) (i : Nat) (s : State) :
    (s.uncorrectableWord r p i).timer = s.timer ∧ (s.uncorrectableWord r p i).capture = s.capture ∧
    (s.uncorrectableWord r p i).speaker = s.speaker ∧
    (s.uncorrectableWord r p i).linkLock = s.linkLock ∧ (s.uncorrectableWord r p i).zones = s.zones ∧
    (s.uncorrectableWord r p i).pool = s.pool ∧ (s.uncorrectableWord r p i).mem = s.mem ∧
    (s.uncorrectableWord r p i).work = s.work ∧ (s.uncorrectableWord r p i).sched = s.sched ∧
    (s.uncorrectableWord r p i).writeHold = s.writeHold ∧ (s.uncorrectableWord r p i).draws = s.draws ∧
    (s.uncorrectableWord r p i).pending = s.pending := by
  and_intros <;> exact State.uncorrectableWord_obs _ (fun _ _ _ => rfl) (fun _ _ => rfl)
    (fun _ _ _ => rfl) (fun _ _ => rfl) (fun _ _ => rfl) (fun _ _ => rfl) r p i s

/-- R173: a corrected word changes the port only. -/
theorem State.correctedWord_obs {β : Type} (f : State → β)
    (hPort : ∀ g s, f (State.modPort g s) = f s)
    (o : Bool) (p : Page) (i : Nat) (v : DataWord) (s : State) : f (s.correctedWord o p i v) = f s := by
  simp only [State.correctedWord, hPort]

/-- The fields that `correctedWord` keeps. -/
@[simp] theorem State.correctedWord_keeps (o : Bool) (p : Page) (i : Nat) (v : DataWord) (s : State) :
    (s.correctedWord o p i v).timer = s.timer ∧ (s.correctedWord o p i v).capture = s.capture ∧
    (s.correctedWord o p i v).speaker = s.speaker ∧ (s.correctedWord o p i v).links = s.links ∧
    (s.correctedWord o p i v).linkLock = s.linkLock ∧ (s.correctedWord o p i v).zones = s.zones ∧
    (s.correctedWord o p i v).beams = s.beams ∧ (s.correctedWord o p i v).segs = s.segs ∧
    (s.correctedWord o p i v).pool = s.pool ∧ (s.correctedWord o p i v).mem = s.mem ∧
    (s.correctedWord o p i v).work = s.work ∧ (s.correctedWord o p i v).sched = s.sched ∧
    (s.correctedWord o p i v).jobs = s.jobs ∧ (s.correctedWord o p i v).writeHold = s.writeHold ∧
    (s.correctedWord o p i v).draws = s.draws ∧ (s.correctedWord o p i v).pending = s.pending := by
  and_intros <;> exact State.correctedWord_obs _ (fun _ _ => rfl) o p i v s

/-- R173, R174: one word read changes what its class says. -/
theorem State.noteWord_obs {β : Type} (f : State → β)
    (hLink : ∀ l g s, f (State.modLink l g s) = f s) (hLinks : ∀ g s, f (State.mapLinks g s) = f s)
    (hBeam : ∀ b g s, f (State.modBeam b g s) = f s) (hSegs : ∀ v s, f (State.setSegs v s) = f s)
    (hJobs : ∀ v s, f (State.setJobs v s) = f s) (hPort : ∀ g s, f (State.modPort g s) = f s)
    (r : Reader) (o : Bool) (p : Page) (w : Nat × WordRead) (s : State) : f (s.noteWord r o p w) = f s := by
  simp only [State.noteWord]
  (repeat' split) <;> simp only [State.correctedWord_obs f hPort,
    State.uncorrectableWord_obs f hLink hLinks hBeam hSegs hJobs hPort]

/-- The fields that `noteWord` keeps. -/
@[simp] theorem State.noteWord_keeps (r : Reader) (o : Bool) (p : Page) (w : Nat × WordRead) (s : State) :
    (s.noteWord r o p w).timer = s.timer ∧ (s.noteWord r o p w).capture = s.capture ∧
    (s.noteWord r o p w).speaker = s.speaker ∧ (s.noteWord r o p w).linkLock = s.linkLock ∧
    (s.noteWord r o p w).zones = s.zones ∧ (s.noteWord r o p w).pool = s.pool ∧
    (s.noteWord r o p w).mem = s.mem ∧ (s.noteWord r o p w).work = s.work ∧
    (s.noteWord r o p w).sched = s.sched ∧ (s.noteWord r o p w).writeHold = s.writeHold ∧
    (s.noteWord r o p w).draws = s.draws ∧ (s.noteWord r o p w).pending = s.pending := by
  and_intros <;> exact State.noteWord_obs _ (fun _ _ _ => rfl) (fun _ _ => rfl) (fun _ _ _ => rfl)
    (fun _ _ => rfl) (fun _ _ => rfl) (fun _ _ => rfl) r o p w s

/-- R173, R174: the words of a read change what one word may. -/
theorem State.noteWords_obs {β : Type} (f : State → β)
    (hLink : ∀ l g s, f (State.modLink l g s) = f s) (hLinks : ∀ g s, f (State.mapLinks g s) = f s)
    (hBeam : ∀ b g s, f (State.modBeam b g s) = f s) (hSegs : ∀ v s, f (State.setSegs v s) = f s)
    (hJobs : ∀ v s, f (State.setJobs v s) = f s) (hPort : ∀ g s, f (State.modPort g s) = f s)
    (r : Reader) (o : Bool) (p : Page) (ws : List (Nat × WordRead)) (s : State) : f (s.noteWords r o p ws) = f s := by
  unfold State.noteWords
  exact foldl_keeps _ f (fun s w => State.noteWord_obs f hLink hLinks hBeam hSegs hJobs hPort r o p w s) ws s

/-- The fields that `noteWords` keeps. -/
@[simp] theorem State.noteWords_keeps (r : Reader) (o : Bool) (p : Page) (ws : List (Nat × WordRead)) (s : State) :
    (s.noteWords r o p ws).timer = s.timer ∧ (s.noteWords r o p ws).capture = s.capture ∧
    (s.noteWords r o p ws).speaker = s.speaker ∧ (s.noteWords r o p ws).linkLock = s.linkLock ∧
    (s.noteWords r o p ws).zones = s.zones ∧ (s.noteWords r o p ws).pool = s.pool ∧
    (s.noteWords r o p ws).mem = s.mem ∧ (s.noteWords r o p ws).work = s.work ∧
    (s.noteWords r o p ws).sched = s.sched ∧ (s.noteWords r o p ws).writeHold = s.writeHold ∧
    (s.noteWords r o p ws).draws = s.draws ∧ (s.noteWords r o p ws).pending = s.pending := by
  and_intros <;> exact State.noteWords_obs _ (fun _ _ _ => rfl) (fun _ _ => rfl) (fun _ _ _ => rfl)
    (fun _ _ => rfl) (fun _ _ => rfl) (fun _ _ => rfl) r o p ws s

/-- R175: a full-page write changes the memory, the marks, the port and the table. -/
theorem State.fullWrite_obs {β : Type} (f : State → β)
    (hSegs : ∀ v s, f (State.setSegs v s) = f s) (hPool : ∀ g s, f (State.modPool g s) = f s)
    (hMem : ∀ v s, f (State.setMem v s) = f s) (hPort : ∀ g s, f (State.modPort g s) = f s)
    (p : Page) (ds : List DataWord) (s : State) : f (s.fullWrite p ds) = f s := by
  simp only [State.fullWrite, State.dropRepairs_obs f hPort, hSegs, hPool, hMem]

/-- The fields that `fullWrite` keeps. -/
@[simp] theorem State.fullWrite_keeps (p : Page) (ds : List DataWord) (s : State) :
    (s.fullWrite p ds).timer = s.timer ∧ (s.fullWrite p ds).capture = s.capture ∧
    (s.fullWrite p ds).speaker = s.speaker ∧ (s.fullWrite p ds).links = s.links ∧
    (s.fullWrite p ds).linkLock = s.linkLock ∧ (s.fullWrite p ds).zones = s.zones ∧
    (s.fullWrite p ds).beams = s.beams ∧ (s.fullWrite p ds).work = s.work ∧
    (s.fullWrite p ds).sched = s.sched ∧ (s.fullWrite p ds).jobs = s.jobs ∧
    (s.fullWrite p ds).writeHold = s.writeHold ∧ (s.fullWrite p ds).draws = s.draws ∧
    (s.fullWrite p ds).pending = s.pending := by
  and_intros <;> exact State.fullWrite_obs _ (fun _ _ => rfl) (fun _ _ => rfl) (fun _ _ => rfl)
    (fun _ _ => rfl) p ds s

/-- R175: a partial write changes the memory and the port. -/
theorem State.partialWrite_obs {β : Type} (f : State → β)
    (hMem : ∀ v s, f (State.setMem v s) = f s) (hPort : ∀ g s, f (State.modPort g s) = f s)
    (p : Page) (i : Nat) (d : DataWord) (s : State) : f (s.partialWrite p i d) = f s := by
  simp only [State.partialWrite, State.dropRepairs_obs f hPort, hMem]

/-- The fields that `partialWrite` keeps. -/
@[simp] theorem State.partialWrite_keeps (p : Page) (i : Nat) (d : DataWord) (s : State) :
    (s.partialWrite p i d).timer = s.timer ∧ (s.partialWrite p i d).capture = s.capture ∧
    (s.partialWrite p i d).speaker = s.speaker ∧ (s.partialWrite p i d).links = s.links ∧
    (s.partialWrite p i d).linkLock = s.linkLock ∧ (s.partialWrite p i d).zones = s.zones ∧
    (s.partialWrite p i d).beams = s.beams ∧ (s.partialWrite p i d).segs = s.segs ∧
    (s.partialWrite p i d).pool = s.pool ∧ (s.partialWrite p i d).work = s.work ∧
    (s.partialWrite p i d).sched = s.sched ∧ (s.partialWrite p i d).jobs = s.jobs ∧
    (s.partialWrite p i d).writeHold = s.writeHold ∧ (s.partialWrite p i d).draws = s.draws ∧
    (s.partialWrite p i d).pending = s.pending := by
  and_intros <;> exact State.partialWrite_obs _ (fun _ _ => rfl) (fun _ _ => rfl) p i d s

/-- R167: counting a transfer changes the port only. -/
theorem State.charge_obs {β : Type} (f : State → β)
    (hPort : ∀ g s, f (State.modPort g s) = f s)
    (m : Account → Account) (s : State) : f (s.charge m) = f s := by
  simp only [State.charge, hPort]

/-- The fields that `charge` keeps. -/
@[simp] theorem State.charge_keeps (m : Account → Account) (s : State) :
    (s.charge m).timer = s.timer ∧ (s.charge m).capture = s.capture ∧ (s.charge m).speaker = s.speaker ∧
    (s.charge m).links = s.links ∧ (s.charge m).linkLock = s.linkLock ∧ (s.charge m).zones = s.zones ∧
    (s.charge m).beams = s.beams ∧ (s.charge m).segs = s.segs ∧ (s.charge m).pool = s.pool ∧
    (s.charge m).mem = s.mem ∧ (s.charge m).work = s.work ∧ (s.charge m).sched = s.sched ∧
    (s.charge m).jobs = s.jobs ∧ (s.charge m).writeHold = s.writeHold ∧ (s.charge m).draws = s.draws ∧
    (s.charge m).pending = s.pending := by
  and_intros <;> exact State.charge_obs _ (fun _ _ => rfl) m s

/-! ## Lanes and latches -/

/-- Setting a lane changes the scheduler only. -/
theorem State.setLane_obs {β : Type} (f : State → β)
    (hSched : ∀ g s, f (State.modSched g s) = f s)
    (n : LaneNo) (p : Option Pass) (s : State) : f (s.setLane n p) = f s := by
  simp only [State.setLane, hSched]

/-- The fields that `setLane` keeps. -/
@[simp] theorem State.setLane_keeps (n : LaneNo) (p : Option Pass) (s : State) :
    (s.setLane n p).timer = s.timer ∧ (s.setLane n p).capture = s.capture ∧
    (s.setLane n p).speaker = s.speaker ∧ (s.setLane n p).links = s.links ∧
    (s.setLane n p).linkLock = s.linkLock ∧ (s.setLane n p).zones = s.zones ∧
    (s.setLane n p).beams = s.beams ∧ (s.setLane n p).segs = s.segs ∧ (s.setLane n p).pool = s.pool ∧
    (s.setLane n p).mem = s.mem ∧ (s.setLane n p).work = s.work ∧ (s.setLane n p).jobs = s.jobs ∧
    (s.setLane n p).port = s.port ∧ (s.setLane n p).writeHold = s.writeHold ∧
    (s.setLane n p).draws = s.draws ∧ (s.setLane n p).pending = s.pending := by
  and_intros <;> exact State.setLane_obs _ (fun _ _ => rfl) n p s

/-- R128: withdrawal changes the scheduler only. -/
theorem State.withdraw_obs {β : Type} (f : State → β)
    (hSched : ∀ g s, f (State.modSched g s) = f s)
    (b : Beam) (s : State) : f (s.withdraw b) = f s := by
  simp only [State.withdraw, hSched]

/-- The fields that `withdraw` keeps. -/
@[simp] theorem State.withdraw_keeps (b : Beam) (s : State) :
    (s.withdraw b).timer = s.timer ∧ (s.withdraw b).capture = s.capture ∧
    (s.withdraw b).speaker = s.speaker ∧ (s.withdraw b).links = s.links ∧
    (s.withdraw b).linkLock = s.linkLock ∧ (s.withdraw b).zones = s.zones ∧
    (s.withdraw b).beams = s.beams ∧ (s.withdraw b).segs = s.segs ∧ (s.withdraw b).pool = s.pool ∧
    (s.withdraw b).mem = s.mem ∧ (s.withdraw b).work = s.work ∧ (s.withdraw b).jobs = s.jobs ∧
    (s.withdraw b).port = s.port ∧ (s.withdraw b).writeHold = s.writeHold ∧
    (s.withdraw b).draws = s.draws ∧ (s.withdraw b).pending = s.pending := by
  and_intros <;> exact State.withdraw_obs _ (fun _ _ => rfl) b s

/-- R132: abandoning a pass changes the scheduler only. -/
theorem State.abandonPass_obs {β : Type} (f : State → β)
    (hSched : ∀ g s, f (State.modSched g s) = f s)
    (b : Beam) (s : State) : f (s.abandonPass b) = f s := by
  simp only [State.abandonPass]
  (repeat' split) <;> simp only [State.withdraw_obs f hSched, State.setLane_obs f hSched, hSched]

/-- The fields that `abandonPass` keeps. -/
@[simp] theorem State.abandonPass_keeps (b : Beam) (s : State) :
    (s.abandonPass b).timer = s.timer ∧ (s.abandonPass b).capture = s.capture ∧
    (s.abandonPass b).speaker = s.speaker ∧ (s.abandonPass b).links = s.links ∧
    (s.abandonPass b).linkLock = s.linkLock ∧ (s.abandonPass b).zones = s.zones ∧
    (s.abandonPass b).beams = s.beams ∧ (s.abandonPass b).segs = s.segs ∧
    (s.abandonPass b).pool = s.pool ∧ (s.abandonPass b).mem = s.mem ∧ (s.abandonPass b).work = s.work ∧
    (s.abandonPass b).jobs = s.jobs ∧ (s.abandonPass b).port = s.port ∧
    (s.abandonPass b).writeHold = s.writeHold ∧ (s.abandonPass b).draws = s.draws ∧
    (s.abandonPass b).pending = s.pending := by
  and_intros <;> exact State.abandonPass_obs _ (fun _ _ => rfl) b s

/-- R116: a latch is in its beam. -/
theorem State.setLatch_obs {β : Type} (f : State → β)
    (hBeam : ∀ b g s, f (State.modBeam b g s) = f s)
    (b : Beam) (v : Bool) (s : State) : f (s.setLatch b v) = f s := by
  simp only [State.setLatch, hBeam]

/-- The fields that `setLatch` keeps. -/
@[simp] theorem State.setLatch_keeps (b : Beam) (v : Bool) (s : State) :
    (s.setLatch b v).timer = s.timer ∧ (s.setLatch b v).capture = s.capture ∧
    (s.setLatch b v).speaker = s.speaker ∧ (s.setLatch b v).links = s.links ∧
    (s.setLatch b v).linkLock = s.linkLock ∧ (s.setLatch b v).zones = s.zones ∧
    (s.setLatch b v).segs = s.segs ∧ (s.setLatch b v).pool = s.pool ∧ (s.setLatch b v).mem = s.mem ∧
    (s.setLatch b v).work = s.work ∧ (s.setLatch b v).sched = s.sched ∧ (s.setLatch b v).jobs = s.jobs ∧
    (s.setLatch b v).port = s.port ∧ (s.setLatch b v).writeHold = s.writeHold ∧
    (s.setLatch b v).draws = s.draws ∧ (s.setLatch b v).pending = s.pending := by
  and_intros <;> exact State.setLatch_obs _ (fun _ _ _ => rfl) b v s

/-- R129: the completion of a pass changes the scheduler and a beam. -/
theorem State.completePass_obs {β : Type} (f : State → β)
    (hBeam : ∀ b g s, f (State.modBeam b g s) = f s) (hSched : ∀ g s, f (State.modSched g s) = f s)
    (n : LaneNo) (s : State) : f (s.completePass n) = f s := by
  simp only [State.completePass]
  (repeat' split) <;> simp only [State.setLane_obs f hSched, hBeam, hSched]

/-- The fields that `completePass` keeps. -/
@[simp] theorem State.completePass_keeps (n : LaneNo) (s : State) :
    (s.completePass n).timer = s.timer ∧ (s.completePass n).capture = s.capture ∧
    (s.completePass n).speaker = s.speaker ∧ (s.completePass n).links = s.links ∧
    (s.completePass n).linkLock = s.linkLock ∧ (s.completePass n).zones = s.zones ∧
    (s.completePass n).segs = s.segs ∧ (s.completePass n).pool = s.pool ∧
    (s.completePass n).mem = s.mem ∧ (s.completePass n).work = s.work ∧
    (s.completePass n).jobs = s.jobs ∧ (s.completePass n).port = s.port ∧
    (s.completePass n).writeHold = s.writeHold ∧ (s.completePass n).draws = s.draws ∧
    (s.completePass n).pending = s.pending := by
  and_intros <;> exact State.completePass_obs _ (fun _ _ _ => rfl) (fun _ _ => rfl) n s

/-- R123: a lane grant changes the scheduler and a beam. -/
theorem State.grantLane_obs {β : Type} (f : State → β)
    (hBeam : ∀ b g s, f (State.modBeam b g s) = f s) (hSched : ∀ g s, f (State.modSched g s) = f s)
    (b : Beam) (s : State) : f (s.grantLane b) = f s := by
  simp only [State.grantLane]
  (repeat' split) <;> simp only [State.setLane_obs f hSched, State.setLatch_obs f hBeam]

/-- The fields that `grantLane` keeps. -/
@[simp] theorem State.grantLane_keeps (b : Beam) (s : State) :
    (s.grantLane b).timer = s.timer ∧ (s.grantLane b).capture = s.capture ∧
    (s.grantLane b).speaker = s.speaker ∧ (s.grantLane b).links = s.links ∧
    (s.grantLane b).linkLock = s.linkLock ∧ (s.grantLane b).zones = s.zones ∧
    (s.grantLane b).segs = s.segs ∧ (s.grantLane b).pool = s.pool ∧ (s.grantLane b).mem = s.mem ∧
    (s.grantLane b).work = s.work ∧ (s.grantLane b).jobs = s.jobs ∧ (s.grantLane b).port = s.port ∧
    (s.grantLane b).writeHold = s.writeHold ∧ (s.grantLane b).draws = s.draws ∧
    (s.grantLane b).pending = s.pending := by
  and_intros <;> exact State.grantLane_obs _ (fun _ _ _ => rfl) (fun _ _ => rfl) b s

/-- R123: the lane grants of a boundary change the scheduler and beams. -/
theorem State.grantLanes_obs {β : Type} (f : State → β)
    (hBeam : ∀ b g s, f (State.modBeam b g s) = f s) (hSched : ∀ g s, f (State.modSched g s) = f s)
    (s : State) : f s.grantLanes = f s := by
  unfold State.grantLanes
  exact foldl_keeps _ f (fun s x => State.grantLane_obs f hBeam hSched _ s) _ s

/-- The fields that `grantLanes` keeps. -/
@[simp] theorem State.grantLanes_keeps (s : State) :
    s.grantLanes.timer = s.timer ∧ s.grantLanes.capture = s.capture ∧
    s.grantLanes.speaker = s.speaker ∧ s.grantLanes.links = s.links ∧
    s.grantLanes.linkLock = s.linkLock ∧ s.grantLanes.zones = s.zones ∧
    s.grantLanes.segs = s.segs ∧ s.grantLanes.pool = s.pool ∧ s.grantLanes.mem = s.mem ∧
    s.grantLanes.work = s.work ∧ s.grantLanes.jobs = s.jobs ∧ s.grantLanes.port = s.port ∧
    s.grantLanes.writeHold = s.writeHold ∧ s.grantLanes.draws = s.draws ∧
    s.grantLanes.pending = s.pending := by
  and_intros <;> exact State.grantLanes_obs _ (fun _ _ _ => rfl) (fun _ _ => rfl) s

/-- R130, R131: bringing a lane up to date changes the scheduler and a beam. -/
theorem State.holdLane_obs {β : Type} (f : State → β)
    (hBeam : ∀ b g s, f (State.modBeam b g s) = f s) (hSched : ∀ g s, f (State.modSched g s) = f s)
    (n : LaneNo) (s : State) : f (s.holdLane n) = f s := by
  simp only [State.holdLane]
  (repeat' split) <;> simp only [State.setLane_obs f hSched, State.setLatch_obs f hBeam, hSched]

/-- The fields that `holdLane` keeps. -/
@[simp] theorem State.holdLane_keeps (n : LaneNo) (s : State) :
    (s.holdLane n).timer = s.timer ∧ (s.holdLane n).capture = s.capture ∧
    (s.holdLane n).speaker = s.speaker ∧ (s.holdLane n).links = s.links ∧
    (s.holdLane n).linkLock = s.linkLock ∧ (s.holdLane n).zones = s.zones ∧
    (s.holdLane n).segs = s.segs ∧ (s.holdLane n).pool = s.pool ∧ (s.holdLane n).mem = s.mem ∧
    (s.holdLane n).work = s.work ∧ (s.holdLane n).jobs = s.jobs ∧ (s.holdLane n).port = s.port ∧
    (s.holdLane n).writeHold = s.writeHold ∧ (s.holdLane n).draws = s.draws ∧
    (s.holdLane n).pending = s.pending := by
  and_intros <;> exact State.holdLane_obs _ (fun _ _ _ => rfl) (fun _ _ => rfl) n s

/-- R130, R131: so does bringing all lanes up to date. -/
theorem State.holdLanes_obs {β : Type} (f : State → β)
    (hBeam : ∀ b g s, f (State.modBeam b g s) = f s) (hSched : ∀ g s, f (State.modSched g s) = f s)
    (s : State) : f s.holdLanes = f s := by
  unfold State.holdLanes
  exact foldl_keeps _ f (fun s x => State.holdLane_obs f hBeam hSched _ s) _ s

/-- The fields that `holdLanes` keeps. -/
@[simp] theorem State.holdLanes_keeps (s : State) :
    s.holdLanes.timer = s.timer ∧ s.holdLanes.capture = s.capture ∧
    s.holdLanes.speaker = s.speaker ∧ s.holdLanes.links = s.links ∧
    s.holdLanes.linkLock = s.linkLock ∧ s.holdLanes.zones = s.zones ∧ s.holdLanes.segs = s.segs ∧
    s.holdLanes.pool = s.pool ∧ s.holdLanes.mem = s.mem ∧ s.holdLanes.work = s.work ∧
    s.holdLanes.jobs = s.jobs ∧ s.holdLanes.port = s.port ∧ s.holdLanes.writeHold = s.writeHold ∧
    s.holdLanes.draws = s.draws ∧ s.holdLanes.pending = s.pending := by
  and_intros <;> exact State.holdLanes_obs _ (fun _ _ _ => rfl) (fun _ _ => rfl) s

/-- R126: a visit of the walk changes the scheduler and a beam. -/
theorem State.visitBeam_obs {β : Type} (f : State → β)
    (hBeam : ∀ b g s, f (State.modBeam b g s) = f s) (hSched : ∀ g s, f (State.modSched g s) = f s)
    (b : Beam) (s : State) : f (s.visitBeam b) = f s := by
  simp only [State.visitBeam]
  (repeat' split) <;> simp only [State.completePass_obs f hBeam hSched, State.setLane_obs f hSched, hSched]

/-- The fields that `visitBeam` keeps. -/
@[simp] theorem State.visitBeam_keeps (b : Beam) (s : State) :
    (s.visitBeam b).timer = s.timer ∧ (s.visitBeam b).capture = s.capture ∧
    (s.visitBeam b).speaker = s.speaker ∧ (s.visitBeam b).links = s.links ∧
    (s.visitBeam b).linkLock = s.linkLock ∧ (s.visitBeam b).zones = s.zones ∧
    (s.visitBeam b).segs = s.segs ∧ (s.visitBeam b).pool = s.pool ∧ (s.visitBeam b).mem = s.mem ∧
    (s.visitBeam b).work = s.work ∧ (s.visitBeam b).jobs = s.jobs ∧ (s.visitBeam b).port = s.port ∧
    (s.visitBeam b).writeHold = s.writeHold ∧ (s.visitBeam b).draws = s.draws ∧
    (s.visitBeam b).pending = s.pending := by
  and_intros <;> exact State.visitBeam_obs _ (fun _ _ _ => rfl) (fun _ _ => rfl) b s

/-- R126: the formation of the demand list changes the scheduler and beams. -/
theorem State.formDemand_obs {β : Type} (f : State → β)
    (hBeam : ∀ b g s, f (State.modBeam b g s) = f s) (hSched : ∀ g s, f (State.modSched g s) = f s)
    (s : State) : f s.formDemand = f s := by
  simp only [State.formDemand, hSched]
  rw [foldl_keeps _ f (fun s b => State.visitBeam_obs f hBeam hSched b s), hSched,
    State.holdLanes_obs f hBeam hSched]

/-- The fields that `formDemand` keeps. -/
@[simp] theorem State.formDemand_keeps (s : State) :
    s.formDemand.timer = s.timer ∧ s.formDemand.capture = s.capture ∧
    s.formDemand.speaker = s.speaker ∧ s.formDemand.links = s.links ∧
    s.formDemand.linkLock = s.linkLock ∧ s.formDemand.zones = s.zones ∧
    s.formDemand.segs = s.segs ∧ s.formDemand.pool = s.pool ∧ s.formDemand.mem = s.mem ∧
    s.formDemand.work = s.work ∧ s.formDemand.jobs = s.jobs ∧ s.formDemand.port = s.port ∧
    s.formDemand.writeHold = s.writeHold ∧ s.formDemand.draws = s.draws ∧
    s.formDemand.pending = s.pending := by
  and_intros <;> exact State.formDemand_obs _ (fun _ _ _ => rfl) (fun _ _ => rfl) s

/-! ## Jobs -/

/-- R37: JOB DONE changes links only. -/
theorem State.raiseJobDone_obs {β : Type} (f : State → β)
    (hLink : ∀ l g s, f (State.modLink l g s) = f s) (hLinks : ∀ g s, f (State.mapLinks g s) = f s)
    (j : Job) (s : State) : f (s.raiseJobDone j) = f s := by
  simp only [State.raiseJobDone]
  (repeat' split) <;> simp only [State.raise_obs f hLink hLinks, State.raiseAll_obs f hLink hLinks]

/-- The fields that `raiseJobDone` keeps. -/
@[simp] theorem State.raiseJobDone_keeps (j : Job) (s : State) :
    (s.raiseJobDone j).timer = s.timer ∧ (s.raiseJobDone j).capture = s.capture ∧
    (s.raiseJobDone j).speaker = s.speaker ∧ (s.raiseJobDone j).linkLock = s.linkLock ∧
    (s.raiseJobDone j).zones = s.zones ∧ (s.raiseJobDone j).beams = s.beams ∧
    (s.raiseJobDone j).segs = s.segs ∧ (s.raiseJobDone j).pool = s.pool ∧
    (s.raiseJobDone j).mem = s.mem ∧ (s.raiseJobDone j).work = s.work ∧
    (s.raiseJobDone j).sched = s.sched ∧ (s.raiseJobDone j).jobs = s.jobs ∧
    (s.raiseJobDone j).port = s.port ∧ (s.raiseJobDone j).writeHold = s.writeHold ∧
    (s.raiseJobDone j).draws = s.draws ∧ (s.raiseJobDone j).pending = s.pending := by
  and_intros <;> exact State.raiseJobDone_obs _ (fun _ _ _ => rfl) (fun _ _ => rfl) j s

/-- R153: taking an anchor changes a beam and the links. -/
theorem State.takeAnchor_obs {β : Type} (f : State → β)
    (hLink : ∀ l g s, f (State.modLink l g s) = f s) (hLinks : ∀ g s, f (State.mapLinks g s) = f s)
    (hBeam : ∀ b g s, f (State.modBeam b g s) = f s)
    (b : Beam) (s : State) : f (s.takeAnchor b) = f s := by
  simp only [State.takeAnchor, State.raiseAll_obs f hLink hLinks, hBeam]

/-- The fields that `takeAnchor` keeps. -/
@[simp] theorem State.takeAnchor_keeps (b : Beam) (s : State) :
    (s.takeAnchor b).timer = s.timer ∧ (s.takeAnchor b).capture = s.capture ∧
    (s.takeAnchor b).speaker = s.speaker ∧ (s.takeAnchor b).linkLock = s.linkLock ∧
    (s.takeAnchor b).zones = s.zones ∧ (s.takeAnchor b).segs = s.segs ∧ (s.takeAnchor b).pool = s.pool ∧
    (s.takeAnchor b).mem = s.mem ∧ (s.takeAnchor b).work = s.work ∧ (s.takeAnchor b).sched = s.sched ∧
    (s.takeAnchor b).jobs = s.jobs ∧ (s.takeAnchor b).port = s.port ∧
    (s.takeAnchor b).writeHold = s.writeHold ∧ (s.takeAnchor b).draws = s.draws ∧
    (s.takeAnchor b).pending = s.pending := by
  and_intros <;> exact State.takeAnchor_obs _ (fun _ _ _ => rfl) (fun _ _ => rfl) (fun _ _ _ => rfl) b s

/-- R156: dropping an anchor changes its beam only. -/
theorem State.dropAnchor_obs {β : Type} (f : State → β)
    (hBeam : ∀ b g s, f (State.modBeam b g s) = f s)
    (b : Beam) (s : State) : f (s.dropAnchor b) = f s := by
  simp only [State.dropAnchor, hBeam]

/-- The fields that `dropAnchor` keeps. -/
@[simp] theorem State.dropAnchor_keeps (b : Beam) (s : State) :
    (s.dropAnchor b).timer = s.timer ∧ (s.dropAnchor b).capture = s.capture ∧
    (s.dropAnchor b).speaker = s.speaker ∧ (s.dropAnchor b).links = s.links ∧
    (s.dropAnchor b).linkLock = s.linkLock ∧ (s.dropAnchor b).zones = s.zones ∧
    (s.dropAnchor b).segs = s.segs ∧ (s.dropAnchor b).pool = s.pool ∧ (s.dropAnchor b).mem = s.mem ∧
    (s.dropAnchor b).work = s.work ∧ (s.dropAnchor b).sched = s.sched ∧ (s.dropAnchor b).jobs = s.jobs ∧
    (s.dropAnchor b).port = s.port ∧ (s.dropAnchor b).writeHold = s.writeHold ∧
    (s.dropAnchor b).draws = s.draws ∧ (s.dropAnchor b).pending = s.pending := by
  and_intros <;> exact State.dropAnchor_obs _ (fun _ _ _ => rfl) b s

/-- R151: clearing the divergence run changes its beam only. -/
theorem State.clearDivergenceRun_obs {β : Type} (f : State → β)
    (hBeam : ∀ b g s, f (State.modBeam b g s) = f s)
    (b : Beam) (s : State) : f (s.clearDivergenceRun b) = f s := by
  simp only [State.clearDivergenceRun, hBeam]

/-- The fields that `clearDivergenceRun` keeps. -/
@[simp] theorem State.clearDivergenceRun_keeps (b : Beam) (s : State) :
    (s.clearDivergenceRun b).timer = s.timer ∧ (s.clearDivergenceRun b).capture = s.capture ∧
    (s.clearDivergenceRun b).speaker = s.speaker ∧ (s.clearDivergenceRun b).links = s.links ∧
    (s.clearDivergenceRun b).linkLock = s.linkLock ∧ (s.clearDivergenceRun b).zones = s.zones ∧
    (s.clearDivergenceRun b).segs = s.segs ∧ (s.clearDivergenceRun b).pool = s.pool ∧
    (s.clearDivergenceRun b).mem = s.mem ∧ (s.clearDivergenceRun b).work = s.work ∧
    (s.clearDivergenceRun b).sched = s.sched ∧ (s.clearDivergenceRun b).jobs = s.jobs ∧
    (s.clearDivergenceRun b).port = s.port ∧ (s.clearDivergenceRun b).writeHold = s.writeHold ∧
    (s.clearDivergenceRun b).draws = s.draws ∧ (s.clearDivergenceRun b).pending = s.pending := by
  and_intros <;> exact State.clearDivergenceRun_obs _ (fun _ _ _ => rfl) b s

/-- R151: a completion changes a beam and links. -/
theorem State.completeJob_obs {β : Type} (f : State → β)
    (hLink : ∀ l g s, f (State.modLink l g s) = f s) (hLinks : ∀ g s, f (State.mapLinks g s) = f s)
    (hBeam : ∀ b g s, f (State.modBeam b g s) = f s)
    (j : Job) (s : State) : f (s.completeJob j) = f s := by
  unfold State.completeJob
  cases j <;> simp only [State.raiseJobDone_obs f hLink hLinks] <;> (repeat' split) <;>
    simp only [State.takeAnchor_obs f hLink hLinks hBeam, State.setLatch_obs f hBeam,
      State.clearDivergenceRun_obs f hBeam, State.dropAnchor_obs f hBeam]

/-- The fields that `completeJob` keeps. -/
@[simp] theorem State.completeJob_keeps (j : Job) (s : State) :
    (s.completeJob j).timer = s.timer ∧ (s.completeJob j).capture = s.capture ∧
    (s.completeJob j).speaker = s.speaker ∧ (s.completeJob j).linkLock = s.linkLock ∧
    (s.completeJob j).zones = s.zones ∧ (s.completeJob j).segs = s.segs ∧
    (s.completeJob j).pool = s.pool ∧ (s.completeJob j).mem = s.mem ∧ (s.completeJob j).work = s.work ∧
    (s.completeJob j).sched = s.sched ∧ (s.completeJob j).jobs = s.jobs ∧
    (s.completeJob j).port = s.port ∧ (s.completeJob j).writeHold = s.writeHold ∧
    (s.completeJob j).draws = s.draws ∧ (s.completeJob j).pending = s.pending := by
  and_intros <;> exact State.completeJob_obs _ (fun _ _ _ => rfl) (fun _ _ => rfl) (fun _ _ _ => rfl) j
    s

/-- R151: successive completions change the list, beams and links. -/
theorem State.settleFuel_obs {β : Type} (f : State → β)
    (hLink : ∀ l g s, f (State.modLink l g s) = f s) (hLinks : ∀ g s, f (State.mapLinks g s) = f s)
    (hBeam : ∀ b g s, f (State.modBeam b g s) = f s) (hJobs : ∀ v s, f (State.setJobs v s) = f s)
    (n : Nat) (s : State) : f (State.settleFuel n s) = f s := by
  induction n generalizing s with
  | zero => rfl
  | succ n ih =>
    simp only [State.settleFuel]
    (repeat' split) <;> simp only [ih, State.completeJob_obs f hLink hLinks hBeam, hJobs]

/-- The fields that `settleFuel` keeps. -/
@[simp] theorem State.settleFuel_keeps (n : Nat) (s : State) :
    (State.settleFuel n s).timer = s.timer ∧ (State.settleFuel n s).capture = s.capture ∧
    (State.settleFuel n s).speaker = s.speaker ∧ (State.settleFuel n s).linkLock = s.linkLock ∧
    (State.settleFuel n s).zones = s.zones ∧ (State.settleFuel n s).segs = s.segs ∧
    (State.settleFuel n s).pool = s.pool ∧ (State.settleFuel n s).mem = s.mem ∧
    (State.settleFuel n s).work = s.work ∧ (State.settleFuel n s).sched = s.sched ∧
    (State.settleFuel n s).port = s.port ∧ (State.settleFuel n s).writeHold = s.writeHold ∧
    (State.settleFuel n s).draws = s.draws ∧ (State.settleFuel n s).pending = s.pending := by
  and_intros <;> exact State.settleFuel_obs _ (fun _ _ _ => rfl) (fun _ _ => rfl) (fun _ _ _ => rfl)
    (fun _ _ => rfl) n s

/-- R151: settling the list's head changes the list, beams and links. -/
theorem State.settle_obs {β : Type} (f : State → β)
    (hLink : ∀ l g s, f (State.modLink l g s) = f s) (hLinks : ∀ g s, f (State.mapLinks g s) = f s)
    (hBeam : ∀ b g s, f (State.modBeam b g s) = f s) (hJobs : ∀ v s, f (State.setJobs v s) = f s)
    (s : State) : f s.settle = f s := by
  simp only [State.settle, State.settleFuel_obs f hLink hLinks hBeam hJobs]

/-- The fields that `settle` keeps. -/
@[simp] theorem State.settle_keeps (s : State) :
    s.settle.timer = s.timer ∧ s.settle.capture = s.capture ∧ s.settle.speaker = s.speaker ∧
    s.settle.linkLock = s.linkLock ∧ s.settle.zones = s.zones ∧ s.settle.segs = s.segs ∧
    s.settle.pool = s.pool ∧ s.settle.mem = s.mem ∧ s.settle.work = s.work ∧
    s.settle.sched = s.sched ∧ s.settle.port = s.port ∧ s.settle.writeHold = s.writeHold ∧
    s.settle.draws = s.draws ∧ s.settle.pending = s.pending := by
  and_intros <;> exact State.settle_obs _ (fun _ _ _ => rfl) (fun _ _ => rfl) (fun _ _ _ => rfl)
    (fun _ _ => rfl) s

/-- R109: noting a queued copy job changes its beam only. -/
theorem State.noteCopyQueued_obs {β : Type} (f : State → β)
    (hBeam : ∀ b g s, f (State.modBeam b g s) = f s)
    (b : Beam) (s : State) : f (s.noteCopyQueued b) = f s := by
  simp only [State.noteCopyQueued, hBeam]

/-- The fields that `noteCopyQueued` keeps. -/
@[simp] theorem State.noteCopyQueued_keeps (b : Beam) (s : State) :
    (s.noteCopyQueued b).timer = s.timer ∧ (s.noteCopyQueued b).capture = s.capture ∧
    (s.noteCopyQueued b).speaker = s.speaker ∧ (s.noteCopyQueued b).links = s.links ∧
    (s.noteCopyQueued b).linkLock = s.linkLock ∧ (s.noteCopyQueued b).zones = s.zones ∧
    (s.noteCopyQueued b).segs = s.segs ∧ (s.noteCopyQueued b).pool = s.pool ∧ (s.noteCopyQueued b).mem = s.mem ∧
    (s.noteCopyQueued b).work = s.work ∧ (s.noteCopyQueued b).sched = s.sched ∧ (s.noteCopyQueued b).jobs = s.jobs ∧
    (s.noteCopyQueued b).port = s.port ∧ (s.noteCopyQueued b).writeHold = s.writeHold ∧
    (s.noteCopyQueued b).draws = s.draws ∧ (s.noteCopyQueued b).pending = s.pending := by
  and_intros <;> exact State.noteCopyQueued_obs _ (fun _ _ _ => rfl) b s

/-- R132, R153: what happens before a job is placed changes the scheduler and a beam. -/
theorem State.beforeQueue_obs {β : Type} (f : State → β)
    (hBeam : ∀ b g s, f (State.modBeam b g s) = f s) (hSched : ∀ g s, f (State.modSched g s) = f s)
    (j : Job) (s : State) : f (s.beforeQueue j) = f s := by
  cases j <;> simp only [State.beforeQueue, State.abandonPass_obs f hSched,
    State.dropAnchor_obs f hBeam, State.noteCopyQueued_obs f hBeam]

/-- The fields that `beforeQueue` keeps. -/
@[simp] theorem State.beforeQueue_keeps (j : Job) (s : State) :
    (s.beforeQueue j).timer = s.timer ∧ (s.beforeQueue j).capture = s.capture ∧
    (s.beforeQueue j).speaker = s.speaker ∧ (s.beforeQueue j).links = s.links ∧
    (s.beforeQueue j).linkLock = s.linkLock ∧ (s.beforeQueue j).zones = s.zones ∧
    (s.beforeQueue j).segs = s.segs ∧ (s.beforeQueue j).pool = s.pool ∧ (s.beforeQueue j).mem = s.mem ∧
    (s.beforeQueue j).work = s.work ∧ (s.beforeQueue j).jobs = s.jobs ∧
    (s.beforeQueue j).port = s.port ∧ (s.beforeQueue j).writeHold = s.writeHold ∧
    (s.beforeQueue j).draws = s.draws ∧ (s.beforeQueue j).pending = s.pending := by
  and_intros <;> exact State.beforeQueue_obs _ (fun _ _ _ => rfl) (fun _ _ => rfl) j s

/-- R148: queueing a job changes the list, the scheduler, beams and links. -/
theorem State.queueJob_obs {β : Type} (f : State → β)
    (hLink : ∀ l g s, f (State.modLink l g s) = f s) (hLinks : ∀ g s, f (State.mapLinks g s) = f s)
    (hBeam : ∀ b g s, f (State.modBeam b g s) = f s) (hSched : ∀ g s, f (State.modSched g s) = f s)
    (hJobs : ∀ v s, f (State.setJobs v s) = f s)
    (j : Job) (s : State) : f (s.queueJob j) = f s := by
  simp only [State.queueJob, State.settle_obs f hLink hLinks hBeam hJobs,
    State.beforeQueue_obs f hBeam hSched, hJobs]

/-- The fields that `queueJob` keeps. -/
@[simp] theorem State.queueJob_keeps (j : Job) (s : State) :
    (s.queueJob j).timer = s.timer ∧ (s.queueJob j).capture = s.capture ∧
    (s.queueJob j).speaker = s.speaker ∧ (s.queueJob j).linkLock = s.linkLock ∧
    (s.queueJob j).zones = s.zones ∧ (s.queueJob j).segs = s.segs ∧ (s.queueJob j).pool = s.pool ∧
    (s.queueJob j).mem = s.mem ∧ (s.queueJob j).work = s.work ∧ (s.queueJob j).port = s.port ∧
    (s.queueJob j).writeHold = s.writeHold ∧ (s.queueJob j).draws = s.draws ∧
    (s.queueJob j).pending = s.pending := by
  and_intros <;> exact State.queueJob_obs _ (fun _ _ _ => rfl) (fun _ _ => rfl) (fun _ _ _ => rfl)
    (fun _ _ => rfl) (fun _ _ => rfl) j s

/-- R154: aborting a CAPTURE changes the list, beams and links. -/
theorem State.abortCapture_obs {β : Type} (f : State → β)
    (hLink : ∀ l g s, f (State.modLink l g s) = f s) (hLinks : ∀ g s, f (State.mapLinks g s) = f s)
    (hBeam : ∀ b g s, f (State.modBeam b g s) = f s) (hJobs : ∀ v s, f (State.setJobs v s) = f s)
    (b : Beam) (s : State) : f (s.abortCapture b) = f s := by
  simp only [State.abortCapture]
  (repeat' split) <;> simp only [State.settle_obs f hLink hLinks hBeam hJobs, hBeam,
    hJobs]

/-- The fields that `abortCapture` keeps. -/
@[simp] theorem State.abortCapture_keeps (b : Beam) (s : State) :
    (s.abortCapture b).timer = s.timer ∧ (s.abortCapture b).capture = s.capture ∧
    (s.abortCapture b).speaker = s.speaker ∧ (s.abortCapture b).linkLock = s.linkLock ∧
    (s.abortCapture b).zones = s.zones ∧ (s.abortCapture b).segs = s.segs ∧
    (s.abortCapture b).pool = s.pool ∧ (s.abortCapture b).mem = s.mem ∧
    (s.abortCapture b).work = s.work ∧ (s.abortCapture b).sched = s.sched ∧
    (s.abortCapture b).port = s.port ∧ (s.abortCapture b).writeHold = s.writeHold ∧
    (s.abortCapture b).draws = s.draws ∧ (s.abortCapture b).pending = s.pending := by
  and_intros <;> exact State.abortCapture_obs _ (fun _ _ _ => rfl) (fun _ _ => rfl) (fun _ _ _ => rfl)
    (fun _ _ => rfl) b s

/-- R153, R156: copying a page keeps timer, ports' frames, zones, scheduler and queue. -/
theorem State.copyPage_obs {β : Type} (f : State → β)
    (hLink : ∀ l g s, f (State.modLink l g s) = f s) (hLinks : ∀ g s, f (State.mapLinks g s) = f s)
    (hBeam : ∀ b g s, f (State.modBeam b g s) = f s) (hSegs : ∀ v s, f (State.setSegs v s) = f s)
    (hPool : ∀ g s, f (State.modPool g s) = f s) (hMem : ∀ v s, f (State.setMem v s) = f s)
    (hJobs : ∀ v s, f (State.setJobs v s) = f s) (hPort : ∀ g s, f (State.modPort g s) = f s)
    (p q : Page) (s : State) : f (s.copyPage p q) = f s := by
  simp only [State.copyPage, State.fullWrite_obs f hSegs hPool hMem hPort,
    State.noteWords_obs f hLink hLinks hBeam hSegs hJobs hPort]

/-- The fields that `copyPage` keeps. -/
@[simp] theorem State.copyPage_keeps (p q : Page) (s : State) :
    (s.copyPage p q).timer = s.timer ∧ (s.copyPage p q).capture = s.capture ∧
    (s.copyPage p q).speaker = s.speaker ∧ (s.copyPage p q).linkLock = s.linkLock ∧
    (s.copyPage p q).zones = s.zones ∧ (s.copyPage p q).work = s.work ∧
    (s.copyPage p q).sched = s.sched ∧ (s.copyPage p q).writeHold = s.writeHold ∧
    (s.copyPage p q).draws = s.draws ∧ (s.copyPage p q).pending = s.pending := by
  and_intros <;> exact State.copyPage_obs _ (fun _ _ _ => rfl) (fun _ _ => rfl) (fun _ _ _ => rfl)
    (fun _ _ => rfl) (fun _ _ => rfl) (fun _ _ => rfl) (fun _ _ => rfl) (fun _ _ => rfl) p q s

/-- R153: a fault mark changes the list only. -/
theorem State.faultHead_obs {β : Type} (f : State → β)
    (hJobs : ∀ v s, f (State.setJobs v s) = f s)
    (bad : Bool) (s : State) : f (s.faultHead bad) = f s := by
  simp only [State.faultHead]
  (repeat' split) <;> simp only [hJobs]

/-- The fields that `faultHead` keeps. -/
@[simp] theorem State.faultHead_keeps (bad : Bool) (s : State) :
    (s.faultHead bad).timer = s.timer ∧ (s.faultHead bad).capture = s.capture ∧
    (s.faultHead bad).speaker = s.speaker ∧ (s.faultHead bad).links = s.links ∧
    (s.faultHead bad).linkLock = s.linkLock ∧ (s.faultHead bad).zones = s.zones ∧
    (s.faultHead bad).beams = s.beams ∧ (s.faultHead bad).segs = s.segs ∧
    (s.faultHead bad).pool = s.pool ∧ (s.faultHead bad).mem = s.mem ∧ (s.faultHead bad).work = s.work ∧
    (s.faultHead bad).sched = s.sched ∧ (s.faultHead bad).port = s.port ∧
    (s.faultHead bad).writeHold = s.writeHold ∧ (s.faultHead bad).draws = s.draws ∧
    (s.faultHead bad).pending = s.pending := by
  and_intros <;> exact State.faultHead_obs _ (fun _ _ => rfl) bad s

/-- R150: one page of a job keeps timer, frames, zones, scheduler and queue. -/
theorem State.jobPage_obs {β : Type} (f : State → β)
    (hLink : ∀ l g s, f (State.modLink l g s) = f s) (hLinks : ∀ g s, f (State.mapLinks g s) = f s)
    (hBeam : ∀ b g s, f (State.modBeam b g s) = f s) (hSegs : ∀ v s, f (State.setSegs v s) = f s)
    (hPool : ∀ g s, f (State.modPool g s) = f s) (hMem : ∀ v s, f (State.setMem v s) = f s)
    (hJobs : ∀ v s, f (State.setJobs v s) = f s) (hPort : ∀ g s, f (State.modPort g s) = f s)
    (j : Job) (e : Segment) (s : State) : f (s.jobPage j e) = f s := by
  cases j <;> simp only [State.jobPage] <;> (repeat' split) <;>
    simp only [State.faultHead_obs f hJobs, State.fullWrite_obs f hSegs hPool hMem hPort,
      State.modSeg_obs f hSegs,
      State.copyPage_obs f hLink hLinks hBeam hSegs hPool hMem hJobs hPort]

/-- The fields that `jobPage` keeps. -/
@[simp] theorem State.jobPage_keeps (j : Job) (e : Segment) (s : State) :
    (s.jobPage j e).timer = s.timer ∧ (s.jobPage j e).capture = s.capture ∧
    (s.jobPage j e).speaker = s.speaker ∧ (s.jobPage j e).linkLock = s.linkLock ∧
    (s.jobPage j e).zones = s.zones ∧ (s.jobPage j e).work = s.work ∧ (s.jobPage j e).sched = s.sched ∧
    (s.jobPage j e).writeHold = s.writeHold ∧ (s.jobPage j e).draws = s.draws ∧
    (s.jobPage j e).pending = s.pending := by
  and_intros <;> exact State.jobPage_obs _ (fun _ _ _ => rfl) (fun _ _ => rfl) (fun _ _ _ => rfl)
    (fun _ _ => rfl) (fun _ _ => rfl) (fun _ _ => rfl) (fun _ _ => rfl) (fun _ _ => rfl) j e s

/-- R150: progress changes the list only. -/
theorem State.advanceHead_obs {β : Type} (f : State → β)
    (hJobs : ∀ v s, f (State.setJobs v s) = f s)
    (e : Segment) (s : State) : f (s.advanceHead e) = f s := by
  simp only [State.advanceHead]
  (repeat' split) <;> simp only [hJobs]

/-- The fields that `advanceHead` keeps. -/
@[simp] theorem State.advanceHead_keeps (e : Segment) (s : State) :
    (s.advanceHead e).timer = s.timer ∧ (s.advanceHead e).capture = s.capture ∧
    (s.advanceHead e).speaker = s.speaker ∧ (s.advanceHead e).links = s.links ∧
    (s.advanceHead e).linkLock = s.linkLock ∧ (s.advanceHead e).zones = s.zones ∧
    (s.advanceHead e).beams = s.beams ∧ (s.advanceHead e).segs = s.segs ∧
    (s.advanceHead e).pool = s.pool ∧ (s.advanceHead e).mem = s.mem ∧ (s.advanceHead e).work = s.work ∧
    (s.advanceHead e).sched = s.sched ∧ (s.advanceHead e).port = s.port ∧
    (s.advanceHead e).writeHold = s.writeHold ∧ (s.advanceHead e).draws = s.draws ∧
    (s.advanceHead e).pending = s.pending := by
  and_intros <;> exact State.advanceHead_obs _ (fun _ _ => rfl) e s

/-- R150: a copy unit grant keeps timer, frames, zones, scheduler and queue. -/
theorem State.serveCopyUnit_obs {β : Type} (f : State → β)
    (hLink : ∀ l g s, f (State.modLink l g s) = f s) (hLinks : ∀ g s, f (State.mapLinks g s) = f s)
    (hBeam : ∀ b g s, f (State.modBeam b g s) = f s) (hSegs : ∀ v s, f (State.setSegs v s) = f s)
    (hPool : ∀ g s, f (State.modPool g s) = f s) (hMem : ∀ v s, f (State.setMem v s) = f s)
    (hJobs : ∀ v s, f (State.setJobs v s) = f s) (hPort : ∀ g s, f (State.modPort g s) = f s)
    (s : State) : f s.serveCopyUnit = f s := by
  simp only [State.serveCopyUnit]
  (repeat' split) <;> simp only [State.settle_obs f hLink hLinks hBeam hJobs,
    State.advanceHead_obs f hJobs,
    State.jobPage_obs f hLink hLinks hBeam hSegs hPool hMem hJobs hPort, State.charge_obs f hPort]

/-- The fields that `serveCopyUnit` keeps. -/
@[simp] theorem State.serveCopyUnit_keeps (s : State) :
    s.serveCopyUnit.timer = s.timer ∧ s.serveCopyUnit.capture = s.capture ∧
    s.serveCopyUnit.speaker = s.speaker ∧ s.serveCopyUnit.linkLock = s.linkLock ∧
    s.serveCopyUnit.zones = s.zones ∧ s.serveCopyUnit.work = s.work ∧
    s.serveCopyUnit.sched = s.sched ∧ s.serveCopyUnit.writeHold = s.writeHold ∧
    s.serveCopyUnit.draws = s.draws ∧ s.serveCopyUnit.pending = s.pending := by
  and_intros <;> exact State.serveCopyUnit_obs _ (fun _ _ _ => rfl) (fun _ _ => rfl) (fun _ _ _ => rfl)
    (fun _ _ => rfl) (fun _ _ => rfl) (fun _ _ => rfl) (fun _ _ => rfl) (fun _ _ => rfl) s

/-! ## Estimate, evaluation and output -/

/-- R188: the gain step changes its beam only. -/
theorem State.stepGain_obs {β : Type} (f : State → β)
    (hBeam : ∀ b g s, f (State.modBeam b g s) = f s)
    (b : Beam) (s : State) : f (s.stepGain b) = f s := by
  simp only [State.stepGain, hBeam]

/-- The fields that `stepGain` keeps. -/
@[simp] theorem State.stepGain_keeps (b : Beam) (s : State) :
    (s.stepGain b).timer = s.timer ∧ (s.stepGain b).capture = s.capture ∧
    (s.stepGain b).speaker = s.speaker ∧ (s.stepGain b).links = s.links ∧
    (s.stepGain b).linkLock = s.linkLock ∧ (s.stepGain b).zones = s.zones ∧
    (s.stepGain b).segs = s.segs ∧ (s.stepGain b).pool = s.pool ∧ (s.stepGain b).mem = s.mem ∧
    (s.stepGain b).work = s.work ∧ (s.stepGain b).sched = s.sched ∧ (s.stepGain b).jobs = s.jobs ∧
    (s.stepGain b).port = s.port ∧ (s.stepGain b).writeHold = s.writeHold ∧
    (s.stepGain b).draws = s.draws ∧ (s.stepGain b).pending = s.pending := by
  and_intros <;> exact State.stepGain_obs _ (fun _ _ _ => rfl) b s

/-- R189: the applied gains are the beams'. -/
theorem State.copyGains_obs {β : Type} (f : State → β)
    (hBeams : ∀ g s, f (State.mapBeams g s) = f s)
    (s : State) : f s.copyGains = f s := by
  simp only [State.copyGains, hBeams]

/-- The fields that `copyGains` keeps. -/
@[simp] theorem State.copyGains_keeps (s : State) :
    s.copyGains.timer = s.timer ∧ s.copyGains.capture = s.capture ∧
    s.copyGains.speaker = s.speaker ∧ s.copyGains.links = s.links ∧
    s.copyGains.linkLock = s.linkLock ∧ s.copyGains.zones = s.zones ∧ s.copyGains.segs = s.segs ∧
    s.copyGains.pool = s.pool ∧ s.copyGains.mem = s.mem ∧ s.copyGains.work = s.work ∧
    s.copyGains.sched = s.sched ∧ s.copyGains.jobs = s.jobs ∧ s.copyGains.port = s.port ∧
    s.copyGains.writeHold = s.writeHold ∧ s.copyGains.draws = s.draws ∧
    s.copyGains.pending = s.pending := by
  and_intros <;> exact State.copyGains_obs _ (fun _ _ => rfl) s

/-- R190: the output block is its beam's. -/
theorem State.formOutput_obs {β : Type} (f : State → β)
    (hBeam : ∀ b g s, f (State.modBeam b g s) = f s)
    (b : Beam) (s : State) : f (s.formOutput b) = f s := by
  simp only [State.formOutput, hBeam]

/-- The fields that `formOutput` keeps. -/
@[simp] theorem State.formOutput_keeps (b : Beam) (s : State) :
    (s.formOutput b).timer = s.timer ∧ (s.formOutput b).capture = s.capture ∧
    (s.formOutput b).speaker = s.speaker ∧ (s.formOutput b).links = s.links ∧
    (s.formOutput b).linkLock = s.linkLock ∧ (s.formOutput b).zones = s.zones ∧
    (s.formOutput b).segs = s.segs ∧ (s.formOutput b).pool = s.pool ∧ (s.formOutput b).mem = s.mem ∧
    (s.formOutput b).work = s.work ∧ (s.formOutput b).sched = s.sched ∧ (s.formOutput b).jobs = s.jobs ∧
    (s.formOutput b).port = s.port ∧ (s.formOutput b).writeHold = s.writeHold ∧
    (s.formOutput b).draws = s.draws ∧ (s.formOutput b).pending = s.pending := by
  and_intros <;> exact State.formOutput_obs _ (fun _ _ _ => rfl) b s

/-- R103: the talk state is its beam's. -/
theorem State.stageTalk_obs {β : Type} (f : State → β)
    (hBeam : ∀ b g s, f (State.modBeam b g s) = f s)
    (b : Beam) (s : State) : f (s.stageTalk b) = f s := by
  simp only [State.stageTalk, hBeam]

/-- The fields that `stageTalk` keeps. -/
@[simp] theorem State.stageTalk_keeps (b : Beam) (s : State) :
    (s.stageTalk b).timer = s.timer ∧ (s.stageTalk b).capture = s.capture ∧
    (s.stageTalk b).speaker = s.speaker ∧ (s.stageTalk b).links = s.links ∧
    (s.stageTalk b).linkLock = s.linkLock ∧ (s.stageTalk b).zones = s.zones ∧
    (s.stageTalk b).segs = s.segs ∧ (s.stageTalk b).pool = s.pool ∧ (s.stageTalk b).mem = s.mem ∧
    (s.stageTalk b).work = s.work ∧ (s.stageTalk b).sched = s.sched ∧ (s.stageTalk b).jobs = s.jobs ∧
    (s.stageTalk b).port = s.port ∧ (s.stageTalk b).writeHold = s.writeHold ∧
    (s.stageTalk b).draws = s.draws ∧ (s.stageTalk b).pending = s.pending := by
  and_intros <;> exact State.stageTalk_obs _ (fun _ _ _ => rfl) b s

/-- R107: a declaration changes beams, links, scheduler and list. -/
theorem State.declareDivergence_obs {β : Type} (f : State → β)
    (hLink : ∀ l g s, f (State.modLink l g s) = f s) (hLinks : ∀ g s, f (State.mapLinks g s) = f s)
    (hBeam : ∀ b g s, f (State.modBeam b g s) = f s) (hSched : ∀ g s, f (State.modSched g s) = f s)
    (hJobs : ∀ v s, f (State.setJobs v s) = f s)
    (b : Beam) (s : State) : f (s.declareDivergence b) = f s := by
  simp only [State.declareDivergence]
  (repeat' split) <;> simp only [State.queueJob_obs f hLink hLinks hBeam hSched hJobs,
    State.abortCapture_obs f hLink hLinks hBeam hJobs, State.raiseAll_obs f hLink hLinks,
    hBeam]

/-- The fields that `declareDivergence` keeps. -/
@[simp] theorem State.declareDivergence_keeps (b : Beam) (s : State) :
    (s.declareDivergence b).timer = s.timer ∧ (s.declareDivergence b).capture = s.capture ∧
    (s.declareDivergence b).speaker = s.speaker ∧ (s.declareDivergence b).linkLock = s.linkLock ∧
    (s.declareDivergence b).zones = s.zones ∧ (s.declareDivergence b).segs = s.segs ∧
    (s.declareDivergence b).pool = s.pool ∧ (s.declareDivergence b).mem = s.mem ∧
    (s.declareDivergence b).work = s.work ∧ (s.declareDivergence b).port = s.port ∧
    (s.declareDivergence b).writeHold = s.writeHold ∧ (s.declareDivergence b).draws = s.draws ∧
    (s.declareDivergence b).pending = s.pending := by
  and_intros <;> exact State.declareDivergence_obs _ (fun _ _ _ => rfl) (fun _ _ => rfl)
    (fun _ _ _ => rfl) (fun _ _ => rfl) (fun _ _ => rfl) b s

/-- R106: so does the second stage. -/
theorem State.stageDivergence_obs {β : Type} (f : State → β)
    (hLink : ∀ l g s, f (State.modLink l g s) = f s) (hLinks : ∀ g s, f (State.mapLinks g s) = f s)
    (hBeam : ∀ b g s, f (State.modBeam b g s) = f s) (hSched : ∀ g s, f (State.modSched g s) = f s)
    (hJobs : ∀ v s, f (State.setJobs v s) = f s)
    (b : Beam) (s : State) : f (s.stageDivergence b) = f s := by
  simp only [State.stageDivergence]
  (repeat' split) <;> simp only [State.declareDivergence_obs f hLink hLinks hBeam hSched hJobs,
    hBeam]

/-- The fields that `stageDivergence` keeps. -/
@[simp] theorem State.stageDivergence_keeps (b : Beam) (s : State) :
    (s.stageDivergence b).timer = s.timer ∧ (s.stageDivergence b).capture = s.capture ∧
    (s.stageDivergence b).speaker = s.speaker ∧ (s.stageDivergence b).linkLock = s.linkLock ∧
    (s.stageDivergence b).zones = s.zones ∧ (s.stageDivergence b).segs = s.segs ∧
    (s.stageDivergence b).pool = s.pool ∧ (s.stageDivergence b).mem = s.mem ∧
    (s.stageDivergence b).work = s.work ∧ (s.stageDivergence b).port = s.port ∧
    (s.stageDivergence b).writeHold = s.writeHold ∧ (s.stageDivergence b).draws = s.draws ∧
    (s.stageDivergence b).pending = s.pending := by
  and_intros <;> exact State.stageDivergence_obs _ (fun _ _ _ => rfl) (fun _ _ => rfl)
    (fun _ _ _ => rfl) (fun _ _ => rfl) (fun _ _ => rfl) b s

/-- R109, R110: so does the third stage. -/
theorem State.stageCapture_obs {β : Type} (f : State → β)
    (hLink : ∀ l g s, f (State.modLink l g s) = f s) (hLinks : ∀ g s, f (State.mapLinks g s) = f s)
    (hBeam : ∀ b g s, f (State.modBeam b g s) = f s) (hSched : ∀ g s, f (State.modSched g s) = f s)
    (hJobs : ∀ v s, f (State.setJobs v s) = f s)
    (q : Bool) (b : Beam) (s : State) : f (s.stageCapture q b) = f s := by
  simp only [State.stageCapture]
  (repeat' split) <;> simp only [State.queueJob_obs f hLink hLinks hBeam hSched hJobs,
    hBeam]

/-- The fields that `stageCapture` keeps. -/
@[simp] theorem State.stageCapture_keeps (q : Bool) (b : Beam) (s : State) :
    (s.stageCapture q b).timer = s.timer ∧ (s.stageCapture q b).capture = s.capture ∧
    (s.stageCapture q b).speaker = s.speaker ∧ (s.stageCapture q b).linkLock = s.linkLock ∧
    (s.stageCapture q b).zones = s.zones ∧ (s.stageCapture q b).segs = s.segs ∧
    (s.stageCapture q b).pool = s.pool ∧ (s.stageCapture q b).mem = s.mem ∧
    (s.stageCapture q b).work = s.work ∧ (s.stageCapture q b).port = s.port ∧
    (s.stageCapture q b).writeHold = s.writeHold ∧ (s.stageCapture q b).draws = s.draws ∧
    (s.stageCapture q b).pending = s.pending := by
  and_intros <;> exact State.stageCapture_obs _ (fun _ _ _ => rfl) (fun _ _ => rfl) (fun _ _ _ => rfl)
    (fun _ _ => rfl) (fun _ _ => rfl) q b s

/-- R112: the request condition is its beam's. -/
theorem State.stageRequest_obs {β : Type} (f : State → β)
    (hBeam : ∀ b g s, f (State.modBeam b g s) = f s)
    (b : Beam) (s : State) : f (s.stageRequest b) = f s := by
  simp only [State.stageRequest, hBeam]

/-- The fields that `stageRequest` keeps. -/
@[simp] theorem State.stageRequest_keeps (b : Beam) (s : State) :
    (s.stageRequest b).timer = s.timer ∧ (s.stageRequest b).capture = s.capture ∧
    (s.stageRequest b).speaker = s.speaker ∧ (s.stageRequest b).links = s.links ∧
    (s.stageRequest b).linkLock = s.linkLock ∧ (s.stageRequest b).zones = s.zones ∧
    (s.stageRequest b).segs = s.segs ∧ (s.stageRequest b).pool = s.pool ∧
    (s.stageRequest b).mem = s.mem ∧ (s.stageRequest b).work = s.work ∧
    (s.stageRequest b).sched = s.sched ∧ (s.stageRequest b).jobs = s.jobs ∧
    (s.stageRequest b).port = s.port ∧ (s.stageRequest b).writeHold = s.writeHold ∧
    (s.stageRequest b).draws = s.draws ∧ (s.stageRequest b).pending = s.pending := by
  and_intros <;> exact State.stageRequest_obs _ (fun _ _ _ => rfl) b s

/-- R99: the record is its beam's. -/
theorem State.recordEvaluation_obs {β : Type} (f : State → β)
    (hBeam : ∀ b g s, f (State.modBeam b g s) = f s)
    (b : Beam) (s : State) : f (s.recordEvaluation b) = f s := by
  simp only [State.recordEvaluation, hBeam]

/-- The fields that `recordEvaluation` keeps. -/
@[simp] theorem State.recordEvaluation_keeps (b : Beam) (s : State) :
    (s.recordEvaluation b).timer = s.timer ∧ (s.recordEvaluation b).capture = s.capture ∧
    (s.recordEvaluation b).speaker = s.speaker ∧ (s.recordEvaluation b).links = s.links ∧
    (s.recordEvaluation b).linkLock = s.linkLock ∧ (s.recordEvaluation b).zones = s.zones ∧
    (s.recordEvaluation b).segs = s.segs ∧ (s.recordEvaluation b).pool = s.pool ∧
    (s.recordEvaluation b).mem = s.mem ∧ (s.recordEvaluation b).work = s.work ∧
    (s.recordEvaluation b).sched = s.sched ∧ (s.recordEvaluation b).jobs = s.jobs ∧
    (s.recordEvaluation b).port = s.port ∧ (s.recordEvaluation b).writeHold = s.writeHold ∧
    (s.recordEvaluation b).draws = s.draws ∧ (s.recordEvaluation b).pending = s.pending := by
  and_intros <;> exact State.recordEvaluation_obs _ (fun _ _ _ => rfl) b s

/-- R99: an evaluation changes beams, links, scheduler and list. -/
theorem State.evaluate_obs {β : Type} (f : State → β)
    (hLink : ∀ l g s, f (State.modLink l g s) = f s) (hLinks : ∀ g s, f (State.mapLinks g s) = f s)
    (hBeam : ∀ b g s, f (State.modBeam b g s) = f s) (hSched : ∀ g s, f (State.modSched g s) = f s)
    (hJobs : ∀ v s, f (State.setJobs v s) = f s)
    (b : Beam) (s : State) : f (s.evaluate b) = f s := by
  simp only [State.evaluate, State.stepGain_obs f hBeam, State.recordEvaluation_obs f hBeam,
    State.stageRequest_obs f hBeam, State.stageCapture_obs f hLink hLinks hBeam hSched hJobs,
    State.stageDivergence_obs f hLink hLinks hBeam hSched hJobs, State.stageTalk_obs f hBeam]

/-- The fields that `evaluate` keeps. -/
@[simp] theorem State.evaluate_keeps (b : Beam) (s : State) :
    (s.evaluate b).timer = s.timer ∧ (s.evaluate b).capture = s.capture ∧
    (s.evaluate b).speaker = s.speaker ∧ (s.evaluate b).linkLock = s.linkLock ∧
    (s.evaluate b).zones = s.zones ∧ (s.evaluate b).segs = s.segs ∧ (s.evaluate b).pool = s.pool ∧
    (s.evaluate b).mem = s.mem ∧ (s.evaluate b).work = s.work ∧ (s.evaluate b).port = s.port ∧
    (s.evaluate b).writeHold = s.writeHold ∧ (s.evaluate b).draws = s.draws ∧
    (s.evaluate b).pending = s.pending := by
  and_intros <;> exact State.evaluate_obs _ (fun _ _ _ => rfl) (fun _ _ => rfl) (fun _ _ _ => rfl)
    (fun _ _ => rfl) (fun _ _ => rfl) b s

/-- R82: the estimator's take changes its work only. -/
theorem State.takeInputs_obs {β : Type} (f : State → β)
    (hWork : ∀ g s, f (State.modWork g s) = f s)
    (s : State) : f s.takeInputs = f s := by
  simp only [State.takeInputs, hWork]

/-- The fields that `takeInputs` keeps. -/
@[simp] theorem State.takeInputs_keeps (s : State) :
    s.takeInputs.timer = s.timer ∧ s.takeInputs.capture = s.capture ∧
    s.takeInputs.speaker = s.speaker ∧ s.takeInputs.links = s.links ∧
    s.takeInputs.linkLock = s.linkLock ∧ s.takeInputs.zones = s.zones ∧
    s.takeInputs.beams = s.beams ∧ s.takeInputs.segs = s.segs ∧ s.takeInputs.pool = s.pool ∧
    s.takeInputs.mem = s.mem ∧ s.takeInputs.sched = s.sched ∧ s.takeInputs.jobs = s.jobs ∧
    s.takeInputs.port = s.port ∧ s.takeInputs.writeHold = s.writeHold ∧
    s.takeInputs.draws = s.draws ∧ s.takeInputs.pending = s.pending := by
  and_intros <;> exact State.takeInputs_obs _ (fun _ _ => rfl) s

/-- R84: one read keeps timer, frames, zones, memory, scheduler and queue. -/
theorem State.readHead_obs {β : Type} (f : State → β)
    (hLink : ∀ l g s, f (State.modLink l g s) = f s) (hLinks : ∀ g s, f (State.mapLinks g s) = f s)
    (hBeam : ∀ b g s, f (State.modBeam b g s) = f s) (hSegs : ∀ v s, f (State.setSegs v s) = f s)
    (hWork : ∀ g s, f (State.modWork g s) = f s) (hJobs : ∀ v s, f (State.setJobs v s) = f s)
    (hPort : ∀ g s, f (State.modPort g s) = f s)
    (s : State) : f s.readHead = f s := by
  simp only [State.readHead]
  (repeat' split) <;> simp only [State.charge_obs f hPort,
    State.noteWords_obs f hLink hLinks hBeam hSegs hJobs hPort, hBeam, hWork]

/-- The fields that `readHead` keeps. -/
@[simp] theorem State.readHead_keeps (s : State) :
    s.readHead.timer = s.timer ∧ s.readHead.capture = s.capture ∧ s.readHead.speaker = s.speaker ∧
    s.readHead.linkLock = s.linkLock ∧ s.readHead.zones = s.zones ∧ s.readHead.pool = s.pool ∧
    s.readHead.mem = s.mem ∧ s.readHead.sched = s.sched ∧ s.readHead.writeHold = s.writeHold ∧
    s.readHead.draws = s.draws ∧ s.readHead.pending = s.pending := by
  and_intros <;> exact State.readHead_obs _ (fun _ _ _ => rfl) (fun _ _ => rfl) (fun _ _ _ => rfl)
    (fun _ _ => rfl) (fun _ _ => rfl) (fun _ _ => rfl) (fun _ _ => rfl) s

/-- R89: the estimate is its beam's. -/
theorem State.formEstimate_obs {β : Type} (f : State → β)
    (hBeam : ∀ b g s, f (State.modBeam b g s) = f s)
    (b : Beam) (s : State) : f (s.formEstimate b) = f s := by
  simp only [State.formEstimate, hBeam]

/-- The fields that `formEstimate` keeps. -/
@[simp] theorem State.formEstimate_keeps (b : Beam) (s : State) :
    (s.formEstimate b).timer = s.timer ∧ (s.formEstimate b).capture = s.capture ∧
    (s.formEstimate b).speaker = s.speaker ∧ (s.formEstimate b).links = s.links ∧
    (s.formEstimate b).linkLock = s.linkLock ∧ (s.formEstimate b).zones = s.zones ∧
    (s.formEstimate b).segs = s.segs ∧ (s.formEstimate b).pool = s.pool ∧
    (s.formEstimate b).mem = s.mem ∧ (s.formEstimate b).work = s.work ∧
    (s.formEstimate b).sched = s.sched ∧ (s.formEstimate b).jobs = s.jobs ∧
    (s.formEstimate b).port = s.port ∧ (s.formEstimate b).writeHold = s.writeHold ∧
    (s.formEstimate b).draws = s.draws ∧ (s.formEstimate b).pending = s.pending := by
  and_intros <;> exact State.formEstimate_obs _ (fun _ _ _ => rfl) b s

/-- R89, R190: so is the output. -/
theorem State.finishEstimate_obs {β : Type} (f : State → β)
    (hBeam : ∀ b g s, f (State.modBeam b g s) = f s)
    (b : Beam) (s : State) : f (s.finishEstimate b) = f s := by
  simp only [State.finishEstimate, State.formOutput_obs f hBeam, State.formEstimate_obs f hBeam]

/-- The fields that `finishEstimate` keeps. -/
@[simp] theorem State.finishEstimate_keeps (b : Beam) (s : State) :
    (s.finishEstimate b).timer = s.timer ∧ (s.finishEstimate b).capture = s.capture ∧
    (s.finishEstimate b).speaker = s.speaker ∧ (s.finishEstimate b).links = s.links ∧
    (s.finishEstimate b).linkLock = s.linkLock ∧ (s.finishEstimate b).zones = s.zones ∧
    (s.finishEstimate b).segs = s.segs ∧ (s.finishEstimate b).pool = s.pool ∧
    (s.finishEstimate b).mem = s.mem ∧ (s.finishEstimate b).work = s.work ∧
    (s.finishEstimate b).sched = s.sched ∧ (s.finishEstimate b).jobs = s.jobs ∧
    (s.finishEstimate b).port = s.port ∧ (s.finishEstimate b).writeHold = s.writeHold ∧
    (s.finishEstimate b).draws = s.draws ∧ (s.finishEstimate b).pending = s.pending := by
  and_intros <;> exact State.finishEstimate_obs _ (fun _ _ _ => rfl) b s

/-- R99: in a GOOD block a completion evaluates. -/
theorem State.evaluateIfGood_obs {β : Type} (f : State → β)
    (hLink : ∀ l g s, f (State.modLink l g s) = f s) (hLinks : ∀ g s, f (State.mapLinks g s) = f s)
    (hBeam : ∀ b g s, f (State.modBeam b g s) = f s) (hSched : ∀ g s, f (State.modSched g s) = f s)
    (hJobs : ∀ v s, f (State.setJobs v s) = f s)
    (b : Beam) (s : State) : f (s.evaluateIfGood b) = f s := by
  simp only [State.evaluateIfGood]
  (repeat' split) <;> simp only [State.evaluate_obs f hLink hLinks hBeam hSched hJobs]

/-- The fields that `evaluateIfGood` keeps. -/
@[simp] theorem State.evaluateIfGood_keeps (b : Beam) (s : State) :
    (s.evaluateIfGood b).timer = s.timer ∧ (s.evaluateIfGood b).capture = s.capture ∧
    (s.evaluateIfGood b).speaker = s.speaker ∧ (s.evaluateIfGood b).linkLock = s.linkLock ∧
    (s.evaluateIfGood b).zones = s.zones ∧ (s.evaluateIfGood b).segs = s.segs ∧
    (s.evaluateIfGood b).pool = s.pool ∧ (s.evaluateIfGood b).mem = s.mem ∧
    (s.evaluateIfGood b).work = s.work ∧ (s.evaluateIfGood b).port = s.port ∧
    (s.evaluateIfGood b).writeHold = s.writeHold ∧ (s.evaluateIfGood b).draws = s.draws ∧
    (s.evaluateIfGood b).pending = s.pending := by
  and_intros <;> exact State.evaluateIfGood_obs _ (fun _ _ _ => rfl) (fun _ _ => rfl) (fun _ _ _ => rfl)
    (fun _ _ => rfl) (fun _ _ => rfl) b s

/-- R89: a beam's completion changes beams, links, scheduler and list. -/
theorem State.completeBeam_obs {β : Type} (f : State → β)
    (hLink : ∀ l g s, f (State.modLink l g s) = f s) (hLinks : ∀ g s, f (State.mapLinks g s) = f s)
    (hBeam : ∀ b g s, f (State.modBeam b g s) = f s) (hSched : ∀ g s, f (State.modSched g s) = f s)
    (hJobs : ∀ v s, f (State.setJobs v s) = f s)
    (b : Beam) (s : State) : f (s.completeBeam b) = f s := by
  simp only [State.completeBeam, State.evaluateIfGood_obs f hLink hLinks hBeam hSched hJobs,
    State.finishEstimate_obs f hBeam]

/-- The fields that `completeBeam` keeps. -/
@[simp] theorem State.completeBeam_keeps (b : Beam) (s : State) :
    (s.completeBeam b).timer = s.timer ∧ (s.completeBeam b).capture = s.capture ∧
    (s.completeBeam b).speaker = s.speaker ∧ (s.completeBeam b).linkLock = s.linkLock ∧
    (s.completeBeam b).zones = s.zones ∧ (s.completeBeam b).segs = s.segs ∧
    (s.completeBeam b).pool = s.pool ∧ (s.completeBeam b).mem = s.mem ∧
    (s.completeBeam b).work = s.work ∧ (s.completeBeam b).port = s.port ∧
    (s.completeBeam b).writeHold = s.writeHold ∧ (s.completeBeam b).draws = s.draws ∧
    (s.completeBeam b).pending = s.pending := by
  and_intros <;> exact State.completeBeam_obs _ (fun _ _ _ => rfl) (fun _ _ => rfl) (fun _ _ _ => rfl)
    (fun _ _ => rfl) (fun _ _ => rfl) b s

/-- R89: so does the completion after a last read. -/
theorem State.completeIfLast_obs {β : Type} (f : State → β)
    (hLink : ∀ l g s, f (State.modLink l g s) = f s) (hLinks : ∀ g s, f (State.mapLinks g s) = f s)
    (hBeam : ∀ b g s, f (State.modBeam b g s) = f s) (hSched : ∀ g s, f (State.modSched g s) = f s)
    (hJobs : ∀ v s, f (State.setJobs v s) = f s)
    (b : Beam) (s : State) : f (s.completeIfLast b) = f s := by
  simp only [State.completeIfLast]
  (repeat' split) <;> simp only [State.completeBeam_obs f hLink hLinks hBeam hSched hJobs]

/-- The fields that `completeIfLast` keeps. -/
@[simp] theorem State.completeIfLast_keeps (b : Beam) (s : State) :
    (s.completeIfLast b).timer = s.timer ∧ (s.completeIfLast b).capture = s.capture ∧
    (s.completeIfLast b).speaker = s.speaker ∧ (s.completeIfLast b).linkLock = s.linkLock ∧
    (s.completeIfLast b).zones = s.zones ∧ (s.completeIfLast b).segs = s.segs ∧
    (s.completeIfLast b).pool = s.pool ∧ (s.completeIfLast b).mem = s.mem ∧
    (s.completeIfLast b).work = s.work ∧ (s.completeIfLast b).port = s.port ∧
    (s.completeIfLast b).writeHold = s.writeHold ∧ (s.completeIfLast b).draws = s.draws ∧
    (s.completeIfLast b).pending = s.pending := by
  and_intros <;> exact State.completeIfLast_obs _ (fun _ _ _ => rfl) (fun _ _ => rfl) (fun _ _ _ => rfl)
    (fun _ _ => rfl) (fun _ _ => rfl) b s

/-- R125: with no read left the demand list is formed. -/
theorem State.formIfDone_obs {β : Type} (f : State → β)
    (hBeam : ∀ b g s, f (State.modBeam b g s) = f s) (hSched : ∀ g s, f (State.modSched g s) = f s)
    (s : State) : f s.formIfDone = f s := by
  simp only [State.formIfDone]
  (repeat' split) <;> simp only [State.formDemand_obs f hBeam hSched]

/-- The fields that `formIfDone` keeps. -/
@[simp] theorem State.formIfDone_keeps (s : State) :
    s.formIfDone.timer = s.timer ∧ s.formIfDone.capture = s.capture ∧
    s.formIfDone.speaker = s.speaker ∧ s.formIfDone.links = s.links ∧
    s.formIfDone.linkLock = s.linkLock ∧ s.formIfDone.zones = s.zones ∧
    s.formIfDone.segs = s.segs ∧ s.formIfDone.pool = s.pool ∧ s.formIfDone.mem = s.mem ∧
    s.formIfDone.work = s.work ∧ s.formIfDone.jobs = s.jobs ∧ s.formIfDone.port = s.port ∧
    s.formIfDone.writeHold = s.writeHold ∧ s.formIfDone.draws = s.draws ∧
    s.formIfDone.pending = s.pending := by
  and_intros <;> exact State.formIfDone_obs _ (fun _ _ _ => rfl) (fun _ _ => rfl) s

/-- R84: a segment read grant keeps timer, frames, zones, memory and queue. -/
theorem State.segmentRead_obs {β : Type} (f : State → β)
    (hLink : ∀ l g s, f (State.modLink l g s) = f s) (hLinks : ∀ g s, f (State.mapLinks g s) = f s)
    (hBeam : ∀ b g s, f (State.modBeam b g s) = f s) (hSegs : ∀ v s, f (State.setSegs v s) = f s)
    (hWork : ∀ g s, f (State.modWork g s) = f s) (hSched : ∀ g s, f (State.modSched g s) = f s)
    (hJobs : ∀ v s, f (State.setJobs v s) = f s) (hPort : ∀ g s, f (State.modPort g s) = f s)
    (s : State) : f s.segmentRead = f s := by
  simp only [State.segmentRead]
  (repeat' split) <;> simp only [State.formIfDone_obs f hBeam hSched,
    State.completeIfLast_obs f hLink hLinks hBeam hSched hJobs,
    State.readHead_obs f hLink hLinks hBeam hSegs hWork hJobs hPort]

/-- The fields that `segmentRead` keeps. -/
@[simp] theorem State.segmentRead_keeps (s : State) :
    s.segmentRead.timer = s.timer ∧ s.segmentRead.capture = s.capture ∧
    s.segmentRead.speaker = s.speaker ∧ s.segmentRead.linkLock = s.linkLock ∧
    s.segmentRead.zones = s.zones ∧ s.segmentRead.pool = s.pool ∧ s.segmentRead.mem = s.mem ∧
    s.segmentRead.writeHold = s.writeHold ∧ s.segmentRead.draws = s.draws ∧
    s.segmentRead.pending = s.pending := by
  and_intros <;> exact State.segmentRead_obs _ (fun _ _ _ => rfl) (fun _ _ => rfl) (fun _ _ _ => rfl)
    (fun _ _ => rfl) (fun _ _ => rfl) (fun _ _ => rfl) (fun _ _ => rfl) (fun _ _ => rfl) s

/-- R168: so do the block's remaining reads. -/
theorem State.finishReadsFuel_obs {β : Type} (f : State → β)
    (hLink : ∀ l g s, f (State.modLink l g s) = f s) (hLinks : ∀ g s, f (State.mapLinks g s) = f s)
    (hBeam : ∀ b g s, f (State.modBeam b g s) = f s) (hSegs : ∀ v s, f (State.setSegs v s) = f s)
    (hWork : ∀ g s, f (State.modWork g s) = f s) (hSched : ∀ g s, f (State.modSched g s) = f s)
    (hJobs : ∀ v s, f (State.setJobs v s) = f s) (hPort : ∀ g s, f (State.modPort g s) = f s)
    (n : Nat) (s : State) : f (State.finishReadsFuel n s) = f s := by
  induction n generalizing s with
  | zero => rfl
  | succ n ih =>
    simp only [State.finishReadsFuel, ih,
      State.segmentRead_obs f hLink hLinks hBeam hSegs hWork hSched hJobs hPort]

/-- The fields that `finishReadsFuel` keeps. -/
@[simp] theorem State.finishReadsFuel_keeps (n : Nat) (s : State) :
    (State.finishReadsFuel n s).timer = s.timer ∧ (State.finishReadsFuel n s).capture = s.capture ∧
    (State.finishReadsFuel n s).speaker = s.speaker ∧
    (State.finishReadsFuel n s).linkLock = s.linkLock ∧ (State.finishReadsFuel n s).zones = s.zones ∧
    (State.finishReadsFuel n s).pool = s.pool ∧ (State.finishReadsFuel n s).mem = s.mem ∧
    (State.finishReadsFuel n s).writeHold = s.writeHold ∧ (State.finishReadsFuel n s).draws = s.draws ∧
    (State.finishReadsFuel n s).pending = s.pending := by
  and_intros <;> exact State.finishReadsFuel_obs _ (fun _ _ _ => rfl) (fun _ _ => rfl)
    (fun _ _ _ => rfl) (fun _ _ => rfl) (fun _ _ => rfl) (fun _ _ => rfl) (fun _ _ => rfl)
    (fun _ _ => rfl) n s

/-- R168: so do all of them. -/
theorem State.finishReads_obs {β : Type} (f : State → β)
    (hLink : ∀ l g s, f (State.modLink l g s) = f s) (hLinks : ∀ g s, f (State.mapLinks g s) = f s)
    (hBeam : ∀ b g s, f (State.modBeam b g s) = f s) (hSegs : ∀ v s, f (State.setSegs v s) = f s)
    (hWork : ∀ g s, f (State.modWork g s) = f s) (hSched : ∀ g s, f (State.modSched g s) = f s)
    (hJobs : ∀ v s, f (State.setJobs v s) = f s) (hPort : ∀ g s, f (State.modPort g s) = f s)
    (s : State) : f s.finishReads = f s := by
  simp only [State.finishReads,
    State.finishReadsFuel_obs f hLink hLinks hBeam hSegs hWork hSched hJobs hPort]

/-- The fields that `finishReads` keeps. -/
@[simp] theorem State.finishReads_keeps (s : State) :
    s.finishReads.timer = s.timer ∧ s.finishReads.capture = s.capture ∧
    s.finishReads.speaker = s.speaker ∧ s.finishReads.linkLock = s.linkLock ∧
    s.finishReads.zones = s.zones ∧ s.finishReads.pool = s.pool ∧ s.finishReads.mem = s.mem ∧
    s.finishReads.writeHold = s.writeHold ∧ s.finishReads.draws = s.draws ∧
    s.finishReads.pending = s.pending := by
  and_intros <;> exact State.finishReads_obs _ (fun _ _ _ => rfl) (fun _ _ => rfl) (fun _ _ _ => rfl)
    (fun _ _ => rfl) (fun _ _ => rfl) (fun _ _ => rfl) (fun _ _ => rfl) (fun _ _ => rfl) s

/-- R89: several completions change what one may. -/
theorem State.completeBeams_obs {β : Type} (f : State → β)
    (hLink : ∀ l g s, f (State.modLink l g s) = f s) (hLinks : ∀ g s, f (State.mapLinks g s) = f s)
    (hBeam : ∀ b g s, f (State.modBeam b g s) = f s) (hSched : ∀ g s, f (State.modSched g s) = f s)
    (hJobs : ∀ v s, f (State.setJobs v s) = f s)
    (bs : List Beam) (s : State) : f (s.completeBeams bs) = f s := by
  unfold State.completeBeams
  exact foldl_keeps _ f (fun s x => State.completeBeam_obs f hLink hLinks hBeam hSched hJobs _ s) _ s

/-- The fields that `completeBeams` keeps. -/
@[simp] theorem State.completeBeams_keeps (bs : List Beam) (s : State) :
    (s.completeBeams bs).timer = s.timer ∧ (s.completeBeams bs).capture = s.capture ∧
    (s.completeBeams bs).speaker = s.speaker ∧ (s.completeBeams bs).linkLock = s.linkLock ∧
    (s.completeBeams bs).zones = s.zones ∧ (s.completeBeams bs).segs = s.segs ∧
    (s.completeBeams bs).pool = s.pool ∧ (s.completeBeams bs).mem = s.mem ∧
    (s.completeBeams bs).work = s.work ∧ (s.completeBeams bs).port = s.port ∧
    (s.completeBeams bs).writeHold = s.writeHold ∧ (s.completeBeams bs).draws = s.draws ∧
    (s.completeBeams bs).pending = s.pending := by
  and_intros <;> exact State.completeBeams_obs _ (fun _ _ _ => rfl) (fun _ _ => rfl) (fun _ _ _ => rfl)
    (fun _ _ => rfl) (fun _ _ => rfl) bs s

/-- R89: so do the completions of a boundary. -/
theorem State.completeAtBoundary_obs {β : Type} (f : State → β)
    (hLink : ∀ l g s, f (State.modLink l g s) = f s) (hLinks : ∀ g s, f (State.mapLinks g s) = f s)
    (hBeam : ∀ b g s, f (State.modBeam b g s) = f s) (hSched : ∀ g s, f (State.modSched g s) = f s)
    (hJobs : ∀ v s, f (State.setJobs v s) = f s)
    (s : State) : f s.completeAtBoundary = f s := by
  simp only [State.completeAtBoundary, State.formIfDone_obs f hBeam hSched,
    State.completeBeams_obs f hLink hLinks hBeam hSched hJobs]

/-- The fields that `completeAtBoundary` keeps. -/
@[simp] theorem State.completeAtBoundary_keeps (s : State) :
    s.completeAtBoundary.timer = s.timer ∧ s.completeAtBoundary.capture = s.capture ∧
    s.completeAtBoundary.speaker = s.speaker ∧ s.completeAtBoundary.linkLock = s.linkLock ∧
    s.completeAtBoundary.zones = s.zones ∧ s.completeAtBoundary.segs = s.segs ∧
    s.completeAtBoundary.pool = s.pool ∧ s.completeAtBoundary.mem = s.mem ∧
    s.completeAtBoundary.work = s.work ∧ s.completeAtBoundary.port = s.port ∧
    s.completeAtBoundary.writeHold = s.writeHold ∧ s.completeAtBoundary.draws = s.draws ∧
    s.completeAtBoundary.pending = s.pending := by
  and_intros <;> exact State.completeAtBoundary_obs _ (fun _ _ _ => rfl) (fun _ _ => rfl)
    (fun _ _ _ => rfl) (fun _ _ => rfl) (fun _ _ => rfl) s

/-- R127: moving a lane on changes the scheduler and a beam. -/
theorem State.advanceLane_obs {β : Type} (f : State → β)
    (hBeam : ∀ b g s, f (State.modBeam b g s) = f s) (hSched : ∀ g s, f (State.modSched g s) = f s)
    (d : Demand) (s : State) : f (s.advanceLane d) = f s := by
  simp only [State.advanceLane]
  (repeat' split) <;> simp only [State.completePass_obs f hBeam hSched, State.setLane_obs f hSched,
    hSched]

/-- The fields that `advanceLane` keeps. -/
@[simp] theorem State.advanceLane_keeps (d : Demand) (s : State) :
    (s.advanceLane d).timer = s.timer ∧ (s.advanceLane d).capture = s.capture ∧
    (s.advanceLane d).speaker = s.speaker ∧ (s.advanceLane d).links = s.links ∧
    (s.advanceLane d).linkLock = s.linkLock ∧ (s.advanceLane d).zones = s.zones ∧
    (s.advanceLane d).segs = s.segs ∧ (s.advanceLane d).pool = s.pool ∧ (s.advanceLane d).mem = s.mem ∧
    (s.advanceLane d).work = s.work ∧ (s.advanceLane d).jobs = s.jobs ∧
    (s.advanceLane d).port = s.port ∧ (s.advanceLane d).writeHold = s.writeHold ∧
    (s.advanceLane d).draws = s.draws ∧ (s.advanceLane d).pending = s.pending := by
  and_intros <;> exact State.advanceLane_obs _ (fun _ _ _ => rfl) (fun _ _ => rfl) d s

/-- R137: an adaptation write keeps timer, frames, links, zones, work, list and queue. -/
theorem State.adaptationWrite_obs {β : Type} (f : State → β)
    (hBeam : ∀ b g s, f (State.modBeam b g s) = f s) (hSegs : ∀ v s, f (State.setSegs v s) = f s)
    (hPool : ∀ g s, f (State.modPool g s) = f s) (hMem : ∀ v s, f (State.setMem v s) = f s)
    (hSched : ∀ g s, f (State.modSched g s) = f s) (hPort : ∀ g s, f (State.modPort g s) = f s)
    (s : State) : f s.adaptationWrite = f s := by
  simp only [State.adaptationWrite]
  (repeat' split) <;> simp only [State.advanceLane_obs f hBeam hSched,
    State.fullWrite_obs f hSegs hPool hMem hPort, State.charge_obs f hPort,
    hSched]

/-- The fields that `adaptationWrite` keeps. -/
@[simp] theorem State.adaptationWrite_keeps (s : State) :
    s.adaptationWrite.timer = s.timer ∧ s.adaptationWrite.capture = s.capture ∧
    s.adaptationWrite.speaker = s.speaker ∧ s.adaptationWrite.links = s.links ∧
    s.adaptationWrite.linkLock = s.linkLock ∧ s.adaptationWrite.zones = s.zones ∧
    s.adaptationWrite.work = s.work ∧ s.adaptationWrite.jobs = s.jobs ∧
    s.adaptationWrite.writeHold = s.writeHold ∧ s.adaptationWrite.draws = s.draws ∧
    s.adaptationWrite.pending = s.pending := by
  and_intros <;> exact State.adaptationWrite_obs _ (fun _ _ _ => rfl) (fun _ _ => rfl) (fun _ _ => rfl)
    (fun _ _ => rfl) (fun _ _ => rfl) (fun _ _ => rfl) s

/-! ## The boundary and the timer's events -/

/-- R47 to R56: mixing a block changes links, zones and the speaker frame. -/
theorem State.mixBlock_obs {β : Type} (f : State → β)
    (hSpeaker : ∀ v s, f (State.setSpeaker v s) = f s) (_hLink : ∀ l g s, f (State.modLink l g s) = f s)
    (hLinks : ∀ g s, f (State.mapLinks g s) = f s) (hZones : ∀ g s, f (State.mapZones g s) = f s)
    (s : State) : f s.mixBlock = f s := by
  simp only [State.mixBlock, hSpeaker, hLinks, hZones]

/-- The fields that `mixBlock` keeps. -/
@[simp] theorem State.mixBlock_keeps (s : State) :
    s.mixBlock.timer = s.timer ∧ s.mixBlock.capture = s.capture ∧
    s.mixBlock.linkLock = s.linkLock ∧ s.mixBlock.beams = s.beams ∧ s.mixBlock.segs = s.segs ∧
    s.mixBlock.pool = s.pool ∧ s.mixBlock.mem = s.mem ∧ s.mixBlock.work = s.work ∧
    s.mixBlock.sched = s.sched ∧ s.mixBlock.jobs = s.jobs ∧ s.mixBlock.port = s.port ∧
    s.mixBlock.writeHold = s.writeHold ∧ s.mixBlock.draws = s.draws ∧
    s.mixBlock.pending = s.pending := by
  and_intros <;> exact State.mixBlock_obs _ (fun _ _ => rfl) (fun _ _ _ => rfl) (fun _ _ => rfl)
    (fun _ _ => rfl) s

/-- R41: sending a frame changes links only. -/
theorem State.sendFrame_obs {β : Type} (f : State → β)
    (hLink : ∀ l g s, f (State.modLink l g s) = f s) (_hLinks : ∀ g s, f (State.mapLinks g s) = f s)
    (l : Link) (s : State) : f (s.sendFrame l) = f s := by
  simp only [State.sendFrame, hLink]

/-- The fields that `sendFrame` keeps. -/
@[simp] theorem State.sendFrame_keeps (l : Link) (s : State) :
    (s.sendFrame l).timer = s.timer ∧ (s.sendFrame l).capture = s.capture ∧
    (s.sendFrame l).speaker = s.speaker ∧ (s.sendFrame l).linkLock = s.linkLock ∧
    (s.sendFrame l).zones = s.zones ∧ (s.sendFrame l).beams = s.beams ∧ (s.sendFrame l).segs = s.segs ∧
    (s.sendFrame l).pool = s.pool ∧ (s.sendFrame l).mem = s.mem ∧ (s.sendFrame l).work = s.work ∧
    (s.sendFrame l).sched = s.sched ∧ (s.sendFrame l).jobs = s.jobs ∧ (s.sendFrame l).port = s.port ∧
    (s.sendFrame l).writeHold = s.writeHold ∧ (s.sendFrame l).draws = s.draws ∧
    (s.sendFrame l).pending = s.pending := by
  and_intros <;> exact State.sendFrame_obs _ (fun _ _ _ => rfl) (fun _ _ => rfl) l s

/-- R41: sending the frames changes links and the draw counter. -/
theorem State.sendFrames_obs {β : Type} (f : State → β)
    (hLink : ∀ l g s, f (State.modLink l g s) = f s) (hLinks : ∀ g s, f (State.mapLinks g s) = f s)
    (hDraw : ∀ s, f (State.draw s) = f s)
    (s : State) : f s.sendFrames = f s := by
  unfold State.sendFrames
  rw [hDraw, foldl_keeps _ f fun s l => State.sendFrame_obs f hLink hLinks l s]

/-- The fields that `sendFrames` keeps. -/
@[simp] theorem State.sendFrames_keeps (s : State) :
    s.sendFrames.timer = s.timer ∧ s.sendFrames.capture = s.capture ∧
    s.sendFrames.speaker = s.speaker ∧ s.sendFrames.linkLock = s.linkLock ∧
    s.sendFrames.zones = s.zones ∧ s.sendFrames.beams = s.beams ∧ s.sendFrames.segs = s.segs ∧
    s.sendFrames.pool = s.pool ∧ s.sendFrames.mem = s.mem ∧ s.sendFrames.work = s.work ∧
    s.sendFrames.sched = s.sched ∧ s.sendFrames.jobs = s.jobs ∧ s.sendFrames.port = s.port ∧
    s.sendFrames.writeHold = s.writeHold ∧ s.sendFrames.pending = s.pending := by
  and_intros <;> exact State.sendFrames_obs _ (fun _ _ _ => rfl) (fun _ _ => rfl) (fun _ => rfl) s

/-- R167, R168, R184: the end of a block keeps timer, frames, zones, memory and queue. -/
theorem State.closeBlock_obs {β : Type} (f : State → β)
    (hLink : ∀ l g s, f (State.modLink l g s) = f s) (hLinks : ∀ g s, f (State.mapLinks g s) = f s)
    (hBeam : ∀ b g s, f (State.modBeam b g s) = f s) (hSegs : ∀ v s, f (State.setSegs v s) = f s)
    (hWork : ∀ g s, f (State.modWork g s) = f s) (hSched : ∀ g s, f (State.modSched g s) = f s)
    (hJobs : ∀ v s, f (State.setJobs v s) = f s) (hPort : ∀ g s, f (State.modPort g s) = f s)
    (hHold : ∀ v s, f (State.setWriteHold v s) = f s)
    (s : State) : f s.closeBlock = f s := by
  simp only [State.closeBlock,
    State.finishReads_obs f hLink hLinks hBeam hSegs hWork hSched hJobs hPort,
    hSched, hPort, hHold]

/-- The fields that `closeBlock` keeps. -/
@[simp] theorem State.closeBlock_keeps (s : State) :
    s.closeBlock.timer = s.timer ∧ s.closeBlock.capture = s.capture ∧
    s.closeBlock.speaker = s.speaker ∧ s.closeBlock.linkLock = s.linkLock ∧
    s.closeBlock.zones = s.zones ∧ s.closeBlock.pool = s.pool ∧ s.closeBlock.mem = s.mem ∧
    s.closeBlock.draws = s.draws ∧ s.closeBlock.pending = s.pending := by
  and_intros <;> exact State.closeBlock_obs _ (fun _ _ _ => rfl) (fun _ _ => rfl) (fun _ _ _ => rfl)
    (fun _ _ => rfl) (fun _ _ => rfl) (fun _ _ => rfl) (fun _ _ => rfl) (fun _ _ => rfl)
    (fun _ _ => rfl) s

/-- R3, R12: the beginning of a block changes the timer and the capture port. -/
theorem State.beginBlock_obs {β : Type} (f : State → β)
    (hTimer : ∀ g s, f (State.modTimer g s) = f s) (hCapture : ∀ v s, f (State.setCapture v s) = f s)
    (st : CaptureStatus) (t : Time) (v : Vector (List Sample) 16) (s : State) : f (s.beginBlock st t v) = f s := by
  simp only [State.beginBlock, hTimer, hCapture]

/-- The fields that `beginBlock` keeps. -/
@[simp] theorem State.beginBlock_keeps (st : CaptureStatus) (t : Time) (v : Vector (List Sample) 16) (s : State) :
    (s.beginBlock st t v).speaker = s.speaker ∧ (s.beginBlock st t v).links = s.links ∧
    (s.beginBlock st t v).linkLock = s.linkLock ∧ (s.beginBlock st t v).zones = s.zones ∧
    (s.beginBlock st t v).beams = s.beams ∧ (s.beginBlock st t v).segs = s.segs ∧
    (s.beginBlock st t v).pool = s.pool ∧ (s.beginBlock st t v).mem = s.mem ∧
    (s.beginBlock st t v).work = s.work ∧ (s.beginBlock st t v).sched = s.sched ∧
    (s.beginBlock st t v).jobs = s.jobs ∧ (s.beginBlock st t v).port = s.port ∧
    (s.beginBlock st t v).writeHold = s.writeHold ∧ (s.beginBlock st t v).draws = s.draws ∧
    (s.beginBlock st t v).pending = s.pending := by
  and_intros <;> exact State.beginBlock_obs _ (fun _ _ => rfl) (fun _ _ => rfl) st t v s

/-- R26, R41, R47, R82, R123, R189: the new block's first work keeps timer, table, memory, list and port. -/
theorem State.openBlock_obs {β : Type} (f : State → β)
    (hSpeaker : ∀ v s, f (State.setSpeaker v s) = f s) (hLink : ∀ l g s, f (State.modLink l g s) = f s)
    (hLinks : ∀ g s, f (State.mapLinks g s) = f s) (hZones : ∀ g s, f (State.mapZones g s) = f s)
    (hBeam : ∀ b g s, f (State.modBeam b g s) = f s) (hBeams : ∀ g s, f (State.mapBeams g s) = f s)
    (hWork : ∀ g s, f (State.modWork g s) = f s) (hSched : ∀ g s, f (State.modSched g s) = f s)
    (hDraw : ∀ s, f (State.draw s) = f s)
    (s : State) : f s.openBlock = f s := by
  simp only [State.openBlock, State.takeInputs_obs f hWork,
    State.sendFrames_obs f hLink hLinks hDraw, State.copyGains_obs f hBeams,
    State.grantLanes_obs f hBeam hSched, State.mixBlock_obs f hSpeaker hLink hLinks hZones]

/-- The fields that `openBlock` keeps. -/
@[simp] theorem State.openBlock_keeps (s : State) :
    s.openBlock.timer = s.timer ∧ s.openBlock.capture = s.capture ∧
    s.openBlock.linkLock = s.linkLock ∧ s.openBlock.segs = s.segs ∧ s.openBlock.pool = s.pool ∧
    s.openBlock.mem = s.mem ∧ s.openBlock.jobs = s.jobs ∧ s.openBlock.port = s.port ∧
    s.openBlock.writeHold = s.writeHold ∧ s.openBlock.pending = s.pending := by
  and_intros <;> exact State.openBlock_obs _ (fun _ _ => rfl) (fun _ _ _ => rfl) (fun _ _ => rfl)
    (fun _ _ => rfl) (fun _ _ _ => rfl) (fun _ _ => rfl) (fun _ _ => rfl) (fun _ _ => rfl)
    (fun _ => rfl) s

/-- A boundary keeps the link lock count, the pool, the memory and the queue. -/
theorem State.boundary_obs {β : Type} (f : State → β)
    (hTimer : ∀ g s, f (State.modTimer g s) = f s) (hCapture : ∀ v s, f (State.setCapture v s) = f s)
    (hSpeaker : ∀ v s, f (State.setSpeaker v s) = f s) (hLink : ∀ l g s, f (State.modLink l g s) = f s)
    (hLinks : ∀ g s, f (State.mapLinks g s) = f s) (hZones : ∀ g s, f (State.mapZones g s) = f s)
    (hBeam : ∀ b g s, f (State.modBeam b g s) = f s) (hBeams : ∀ g s, f (State.mapBeams g s) = f s)
    (hSegs : ∀ v s, f (State.setSegs v s) = f s) (hWork : ∀ g s, f (State.modWork g s) = f s)
    (hSched : ∀ g s, f (State.modSched g s) = f s) (hJobs : ∀ v s, f (State.setJobs v s) = f s)
    (hPort : ∀ g s, f (State.modPort g s) = f s) (hHold : ∀ v s, f (State.setWriteHold v s) = f s)
    (hDraw : ∀ s, f (State.draw s) = f s)
    (st : CaptureStatus) (t : Time) (v : Vector (List Sample) 16) (s : State) : f (s.boundary st t v) = f s := by
  simp only [State.boundary, State.completeAtBoundary_obs f hLink hLinks hBeam hSched hJobs,
    State.openBlock_obs f hSpeaker hLink hLinks hZones hBeam hBeams hWork hSched hDraw,
    State.beginBlock_obs f hTimer hCapture,
    State.closeBlock_obs f hLink hLinks hBeam hSegs hWork hSched hJobs hPort hHold]

/-- The fields that `boundary` keeps. -/
@[simp] theorem State.boundary_keeps (st : CaptureStatus) (t : Time) (v : Vector (List Sample) 16) (s : State) :
    (s.boundary st t v).linkLock = s.linkLock ∧ (s.boundary st t v).pool = s.pool ∧
    (s.boundary st t v).mem = s.mem ∧ (s.boundary st t v).pending = s.pending := by
  and_intros <;> exact State.boundary_obs _ (fun _ _ => rfl) (fun _ _ => rfl) (fun _ _ => rfl)
    (fun _ _ _ => rfl) (fun _ _ => rfl) (fun _ _ => rfl) (fun _ _ _ => rfl) (fun _ _ => rfl)
    (fun _ _ => rfl) (fun _ _ => rfl) (fun _ _ => rfl) (fun _ _ => rfl) (fun _ _ => rfl)
    (fun _ _ => rfl) (fun _ => rfl) st t v s

/-- R14: a verdict changes the timer and the links. -/
theorem State.judged_obs {β : Type} (f : State → β)
    (hTimer : ∀ g s, f (State.modTimer g s) = f s) (hLink : ∀ l g s, f (State.modLink l g s) = f s)
    (hLinks : ∀ g s, f (State.mapLinks g s) = f s)
    (v : Verdict) (s : State) : f (s.judged v) = f s := by
  simp only [State.judged]
  (repeat' split) <;> simp only [State.raiseAll_obs f hLink hLinks, hTimer]

/-- The fields that `judged` keeps. -/
@[simp] theorem State.judged_keeps (v : Verdict) (s : State) :
    (s.judged v).capture = s.capture ∧ (s.judged v).speaker = s.speaker ∧
    (s.judged v).linkLock = s.linkLock ∧ (s.judged v).zones = s.zones ∧ (s.judged v).beams = s.beams ∧
    (s.judged v).segs = s.segs ∧ (s.judged v).pool = s.pool ∧ (s.judged v).mem = s.mem ∧
    (s.judged v).work = s.work ∧ (s.judged v).sched = s.sched ∧ (s.judged v).jobs = s.jobs ∧
    (s.judged v).port = s.port ∧ (s.judged v).writeHold = s.writeHold ∧ (s.judged v).draws = s.draws ∧
    (s.judged v).pending = s.pending := by
  and_intros <;> exact State.judged_obs _ (fun _ _ => rfl) (fun _ _ _ => rfl) (fun _ _ => rfl) v s

/-- An event of the timer keeps what a boundary keeps. -/
theorem State.timerEvent_obs {β : Type} (f : State → β)
    (hTimer : ∀ g s, f (State.modTimer g s) = f s) (hCapture : ∀ v s, f (State.setCapture v s) = f s)
    (hSpeaker : ∀ v s, f (State.setSpeaker v s) = f s) (hLink : ∀ l g s, f (State.modLink l g s) = f s)
    (hLinks : ∀ g s, f (State.mapLinks g s) = f s) (hZones : ∀ g s, f (State.mapZones g s) = f s)
    (hBeam : ∀ b g s, f (State.modBeam b g s) = f s) (hBeams : ∀ g s, f (State.mapBeams g s) = f s)
    (hSegs : ∀ v s, f (State.setSegs v s) = f s) (hWork : ∀ g s, f (State.modWork g s) = f s)
    (hSched : ∀ g s, f (State.modSched g s) = f s) (hJobs : ∀ v s, f (State.setJobs v s) = f s)
    (hPort : ∀ g s, f (State.modPort g s) = f s) (hHold : ∀ v s, f (State.setWriteHold v s) = f s)
    (hDraw : ∀ s, f (State.draw s) = f s)
    (v : Verdict) (t : Time) (x : Vector (List Sample) 16) (s : State) : f (s.timerEvent v t x) = f s := by
  simp only [State.timerEvent]
  (repeat' split) <;> simp only [
    State.boundary_obs f hTimer hCapture hSpeaker hLink hLinks hZones hBeam hBeams hSegs hWork hSched hJobs hPort hHold hDraw,
    State.judged_obs f hTimer hLink hLinks]

/-- The fields that `timerEvent` keeps. -/
@[simp] theorem State.timerEvent_keeps (v : Verdict) (t : Time) (x : Vector (List Sample) 16) (s : State) :
    (s.timerEvent v t x).linkLock = s.linkLock ∧ (s.timerEvent v t x).pool = s.pool ∧
    (s.timerEvent v t x).mem = s.mem ∧ (s.timerEvent v t x).pending = s.pending := by
  and_intros <;> exact State.timerEvent_obs _ (fun _ _ => rfl) (fun _ _ => rfl) (fun _ _ => rfl)
    (fun _ _ _ => rfl) (fun _ _ => rfl) (fun _ _ => rfl) (fun _ _ _ => rfl) (fun _ _ => rfl)
    (fun _ _ => rfl) (fun _ _ => rfl) (fun _ _ => rfl) (fun _ _ => rfl) (fun _ _ => rfl)
    (fun _ _ => rfl) (fun _ => rfl) v t x s

/-- So does an event of the timer's own. -/
theorem State.dueEvent_obs {β : Type} (f : State → β)
    (hTimer : ∀ g s, f (State.modTimer g s) = f s) (hCapture : ∀ v s, f (State.setCapture v s) = f s)
    (hSpeaker : ∀ v s, f (State.setSpeaker v s) = f s) (hLink : ∀ l g s, f (State.modLink l g s) = f s)
    (hLinks : ∀ g s, f (State.mapLinks g s) = f s) (hZones : ∀ g s, f (State.mapZones g s) = f s)
    (hBeam : ∀ b g s, f (State.modBeam b g s) = f s) (hBeams : ∀ g s, f (State.mapBeams g s) = f s)
    (hSegs : ∀ v s, f (State.setSegs v s) = f s) (hWork : ∀ g s, f (State.modWork g s) = f s)
    (hSched : ∀ g s, f (State.modSched g s) = f s) (hJobs : ∀ v s, f (State.setJobs v s) = f s)
    (hPort : ∀ g s, f (State.modPort g s) = f s) (hHold : ∀ v s, f (State.setWriteHold v s) = f s)
    (hDraw : ∀ s, f (State.draw s) = f s)
    (s : State) : f s.dueEvent = f s := by
  simp only [State.dueEvent,
    State.timerEvent_obs f hTimer hCapture hSpeaker hLink hLinks hZones hBeam hBeams hSegs hWork hSched hJobs hPort hHold hDraw]

/-- The fields that `dueEvent` keeps. -/
@[simp] theorem State.dueEvent_keeps (s : State) :
    s.dueEvent.linkLock = s.linkLock ∧ s.dueEvent.pool = s.pool ∧ s.dueEvent.mem = s.mem ∧
    s.dueEvent.pending = s.pending := by
  and_intros <;> exact State.dueEvent_obs _ (fun _ _ => rfl) (fun _ _ => rfl) (fun _ _ => rfl)
    (fun _ _ _ => rfl) (fun _ _ => rfl) (fun _ _ => rfl) (fun _ _ _ => rfl) (fun _ _ => rfl)
    (fun _ _ => rfl) (fun _ _ => rfl) (fun _ _ => rfl) (fun _ _ => rfl) (fun _ _ => rfl)
    (fun _ _ => rfl) (fun _ => rfl) s

/-- So do overdue events. -/
theorem State.catchUpFuel_obs {β : Type} (f : State → β)
    (hTimer : ∀ g s, f (State.modTimer g s) = f s) (hCapture : ∀ v s, f (State.setCapture v s) = f s)
    (hSpeaker : ∀ v s, f (State.setSpeaker v s) = f s) (hLink : ∀ l g s, f (State.modLink l g s) = f s)
    (hLinks : ∀ g s, f (State.mapLinks g s) = f s) (hZones : ∀ g s, f (State.mapZones g s) = f s)
    (hBeam : ∀ b g s, f (State.modBeam b g s) = f s) (hBeams : ∀ g s, f (State.mapBeams g s) = f s)
    (hSegs : ∀ v s, f (State.setSegs v s) = f s) (hWork : ∀ g s, f (State.modWork g s) = f s)
    (hSched : ∀ g s, f (State.modSched g s) = f s) (hJobs : ∀ v s, f (State.setJobs v s) = f s)
    (hPort : ∀ g s, f (State.modPort g s) = f s) (hHold : ∀ v s, f (State.setWriteHold v s) = f s)
    (hDraw : ∀ s, f (State.draw s) = f s)
    (t : Time) (n : Nat) (s : State) : f (State.catchUpFuel t n s) = f s := by
  induction n generalizing s with
  | zero => rfl
  | succ n ih =>
    simp only [State.catchUpFuel]
    split
    · rw [ih, State.dueEvent_obs f hTimer hCapture hSpeaker hLink hLinks hZones hBeam hBeams hSegs
        hWork hSched hJobs hPort hHold hDraw]
    · rfl

/-- The fields that `catchUpFuel` keeps. -/
@[simp] theorem State.catchUpFuel_keeps (t : Time) (n : Nat) (s : State) :
    (State.catchUpFuel t n s).linkLock = s.linkLock ∧ (State.catchUpFuel t n s).pool = s.pool ∧
    (State.catchUpFuel t n s).mem = s.mem ∧ (State.catchUpFuel t n s).pending = s.pending := by
  and_intros <;> exact State.catchUpFuel_obs _ (fun _ _ => rfl) (fun _ _ => rfl) (fun _ _ => rfl)
    (fun _ _ _ => rfl) (fun _ _ => rfl) (fun _ _ => rfl) (fun _ _ _ => rfl) (fun _ _ => rfl)
    (fun _ _ => rfl) (fun _ _ => rfl) (fun _ _ => rfl) (fun _ _ => rfl) (fun _ _ => rfl)
    (fun _ _ => rfl) (fun _ => rfl) t n s

/-- So do all of them. -/
theorem State.catchUp_obs {β : Type} (f : State → β)
    (hTimer : ∀ g s, f (State.modTimer g s) = f s) (hCapture : ∀ v s, f (State.setCapture v s) = f s)
    (hSpeaker : ∀ v s, f (State.setSpeaker v s) = f s) (hLink : ∀ l g s, f (State.modLink l g s) = f s)
    (hLinks : ∀ g s, f (State.mapLinks g s) = f s) (hZones : ∀ g s, f (State.mapZones g s) = f s)
    (hBeam : ∀ b g s, f (State.modBeam b g s) = f s) (hBeams : ∀ g s, f (State.mapBeams g s) = f s)
    (hSegs : ∀ v s, f (State.setSegs v s) = f s) (hWork : ∀ g s, f (State.modWork g s) = f s)
    (hSched : ∀ g s, f (State.modSched g s) = f s) (hJobs : ∀ v s, f (State.setJobs v s) = f s)
    (hPort : ∀ g s, f (State.modPort g s) = f s) (hHold : ∀ v s, f (State.setWriteHold v s) = f s)
    (hDraw : ∀ s, f (State.draw s) = f s)
    (t : Time) (s : State) : f (s.catchUp t) = f s := by
  simp only [State.catchUp,
    State.catchUpFuel_obs f hTimer hCapture hSpeaker hLink hLinks hZones hBeam hBeams hSegs hWork hSched hJobs hPort hHold hDraw]

/-- The fields that `catchUp` keeps. -/
@[simp] theorem State.catchUp_keeps (t : Time) (s : State) :
    (s.catchUp t).linkLock = s.linkLock ∧ (s.catchUp t).pool = s.pool ∧ (s.catchUp t).mem = s.mem ∧
    (s.catchUp t).pending = s.pending := by
  and_intros <;> exact State.catchUp_obs _ (fun _ _ => rfl) (fun _ _ => rfl) (fun _ _ => rfl)
    (fun _ _ _ => rfl) (fun _ _ => rfl) (fun _ _ => rfl) (fun _ _ _ => rfl) (fun _ _ => rfl)
    (fun _ _ => rfl) (fun _ _ => rfl) (fun _ _ => rfl) (fun _ _ => rfl) (fun _ _ => rfl)
    (fun _ _ => rfl) (fun _ => rfl) t s

/-- So does a capture frame with nothing overdue. -/
theorem State.takeCapture_obs {β : Type} (f : State → β)
    (hTimer : ∀ g s, f (State.modTimer g s) = f s) (hCapture : ∀ v s, f (State.setCapture v s) = f s)
    (hSpeaker : ∀ v s, f (State.setSpeaker v s) = f s) (hLink : ∀ l g s, f (State.modLink l g s) = f s)
    (hLinks : ∀ g s, f (State.mapLinks g s) = f s) (hZones : ∀ g s, f (State.mapZones g s) = f s)
    (hBeam : ∀ b g s, f (State.modBeam b g s) = f s) (hBeams : ∀ g s, f (State.mapBeams g s) = f s)
    (hSegs : ∀ v s, f (State.setSegs v s) = f s) (hWork : ∀ g s, f (State.modWork g s) = f s)
    (hSched : ∀ g s, f (State.modSched g s) = f s) (hJobs : ∀ v s, f (State.setJobs v s) = f s)
    (hPort : ∀ g s, f (State.modPort g s) = f s) (hHold : ∀ v s, f (State.setWriteHold v s) = f s)
    (hDraw : ∀ s, f (State.draw s) = f s)
    (bytes : List Byte) (t : Time) (s : State) : f (s.takeCapture bytes t) = f s := by
  simp only [State.takeCapture,
    State.timerEvent_obs f hTimer hCapture hSpeaker hLink hLinks hZones hBeam hBeams hSegs hWork hSched hJobs hPort hHold hDraw]

/-- The fields that `takeCapture` keeps. -/
@[simp] theorem State.takeCapture_keeps (bytes : List Byte) (t : Time) (s : State) :
    (s.takeCapture bytes t).linkLock = s.linkLock ∧ (s.takeCapture bytes t).pool = s.pool ∧
    (s.takeCapture bytes t).mem = s.mem ∧ (s.takeCapture bytes t).pending = s.pending := by
  and_intros <;> exact State.takeCapture_obs _ (fun _ _ => rfl) (fun _ _ => rfl) (fun _ _ => rfl)
    (fun _ _ _ => rfl) (fun _ _ => rfl) (fun _ _ => rfl) (fun _ _ _ => rfl) (fun _ _ => rfl)
    (fun _ _ => rfl) (fun _ _ => rfl) (fun _ _ => rfl) (fun _ _ => rfl) (fun _ _ => rfl)
    (fun _ _ => rfl) (fun _ => rfl) bytes t s

/-- So does a capture frame. -/
theorem State.frameArrives_obs {β : Type} (f : State → β)
    (hTimer : ∀ g s, f (State.modTimer g s) = f s) (hCapture : ∀ v s, f (State.setCapture v s) = f s)
    (hSpeaker : ∀ v s, f (State.setSpeaker v s) = f s) (hLink : ∀ l g s, f (State.modLink l g s) = f s)
    (hLinks : ∀ g s, f (State.mapLinks g s) = f s) (hZones : ∀ g s, f (State.mapZones g s) = f s)
    (hBeam : ∀ b g s, f (State.modBeam b g s) = f s) (hBeams : ∀ g s, f (State.mapBeams g s) = f s)
    (hSegs : ∀ v s, f (State.setSegs v s) = f s) (hWork : ∀ g s, f (State.modWork g s) = f s)
    (hSched : ∀ g s, f (State.modSched g s) = f s) (hJobs : ∀ v s, f (State.setJobs v s) = f s)
    (hPort : ∀ g s, f (State.modPort g s) = f s) (hHold : ∀ v s, f (State.setWriteHold v s) = f s)
    (hDraw : ∀ s, f (State.draw s) = f s)
    (bytes : List Byte) (t : Time) (s : State) : f (s.frameArrives bytes t) = f s := by
  simp only [State.frameArrives,
    State.takeCapture_obs f hTimer hCapture hSpeaker hLink hLinks hZones hBeam hBeams hSegs hWork hSched hJobs hPort hHold hDraw,
    State.catchUp_obs f hTimer hCapture hSpeaker hLink hLinks hZones hBeam hBeams hSegs hWork hSched hJobs hPort hHold hDraw]

/-- The fields that `frameArrives` keeps. -/
@[simp] theorem State.frameArrives_keeps (bytes : List Byte) (t : Time) (s : State) :
    (s.frameArrives bytes t).linkLock = s.linkLock ∧ (s.frameArrives bytes t).pool = s.pool ∧
    (s.frameArrives bytes t).mem = s.mem ∧ (s.frameArrives bytes t).pending = s.pending := by
  and_intros <;> exact State.frameArrives_obs _ (fun _ _ => rfl) (fun _ _ => rfl) (fun _ _ => rfl)
    (fun _ _ _ => rfl) (fun _ _ => rfl) (fun _ _ => rfl) (fun _ _ _ => rfl) (fun _ _ => rfl)
    (fun _ _ => rfl) (fun _ _ => rfl) (fun _ _ => rfl) (fun _ _ => rfl) (fun _ _ => rfl)
    (fun _ _ => rfl) (fun _ => rfl) bytes t s

/-- So does the watch expiry. -/
theorem State.watchExpiry_obs {β : Type} (f : State → β)
    (hTimer : ∀ g s, f (State.modTimer g s) = f s) (hCapture : ∀ v s, f (State.setCapture v s) = f s)
    (hSpeaker : ∀ v s, f (State.setSpeaker v s) = f s) (hLink : ∀ l g s, f (State.modLink l g s) = f s)
    (hLinks : ∀ g s, f (State.mapLinks g s) = f s) (hZones : ∀ g s, f (State.mapZones g s) = f s)
    (hBeam : ∀ b g s, f (State.modBeam b g s) = f s) (hBeams : ∀ g s, f (State.mapBeams g s) = f s)
    (hSegs : ∀ v s, f (State.setSegs v s) = f s) (hWork : ∀ g s, f (State.modWork g s) = f s)
    (hSched : ∀ g s, f (State.modSched g s) = f s) (hJobs : ∀ v s, f (State.setJobs v s) = f s)
    (hPort : ∀ g s, f (State.modPort g s) = f s) (hHold : ∀ v s, f (State.setWriteHold v s) = f s)
    (hDraw : ∀ s, f (State.draw s) = f s)
    (s : State) : f s.watchExpiry = f s := by
  simp only [State.watchExpiry]
  (repeat' split) <;> simp only [
    State.dueEvent_obs f hTimer hCapture hSpeaker hLink hLinks hZones hBeam hBeams hSegs hWork hSched hJobs hPort hHold hDraw]

/-- The fields that `watchExpiry` keeps. -/
@[simp] theorem State.watchExpiry_keeps (s : State) :
    s.watchExpiry.linkLock = s.linkLock ∧ s.watchExpiry.pool = s.pool ∧
    s.watchExpiry.mem = s.mem ∧ s.watchExpiry.pending = s.pending := by
  and_intros <;> exact State.watchExpiry_obs _ (fun _ _ => rfl) (fun _ _ => rfl) (fun _ _ => rfl)
    (fun _ _ _ => rfl) (fun _ _ => rfl) (fun _ _ => rfl) (fun _ _ _ => rfl) (fun _ _ => rfl)
    (fun _ _ => rfl) (fun _ _ => rfl) (fun _ _ => rfl) (fun _ _ => rfl) (fun _ _ => rfl)
    (fun _ _ => rfl) (fun _ => rfl) s

/-- So does the free-running boundary. -/
theorem State.freeRunning_obs {β : Type} (f : State → β)
    (hTimer : ∀ g s, f (State.modTimer g s) = f s) (hCapture : ∀ v s, f (State.setCapture v s) = f s)
    (hSpeaker : ∀ v s, f (State.setSpeaker v s) = f s) (hLink : ∀ l g s, f (State.modLink l g s) = f s)
    (hLinks : ∀ g s, f (State.mapLinks g s) = f s) (hZones : ∀ g s, f (State.mapZones g s) = f s)
    (hBeam : ∀ b g s, f (State.modBeam b g s) = f s) (hBeams : ∀ g s, f (State.mapBeams g s) = f s)
    (hSegs : ∀ v s, f (State.setSegs v s) = f s) (hWork : ∀ g s, f (State.modWork g s) = f s)
    (hSched : ∀ g s, f (State.modSched g s) = f s) (hJobs : ∀ v s, f (State.setJobs v s) = f s)
    (hPort : ∀ g s, f (State.modPort g s) = f s) (hHold : ∀ v s, f (State.setWriteHold v s) = f s)
    (hDraw : ∀ s, f (State.draw s) = f s)
    (s : State) : f s.freeRunning = f s := by
  simp only [State.freeRunning]
  (repeat' split) <;> simp only [
    State.dueEvent_obs f hTimer hCapture hSpeaker hLink hLinks hZones hBeam hBeams hSegs hWork hSched hJobs hPort hHold hDraw]

/-- The fields that `freeRunning` keeps. -/
@[simp] theorem State.freeRunning_keeps (s : State) :
    s.freeRunning.linkLock = s.linkLock ∧ s.freeRunning.pool = s.pool ∧
    s.freeRunning.mem = s.mem ∧ s.freeRunning.pending = s.pending := by
  and_intros <;> exact State.freeRunning_obs _ (fun _ _ => rfl) (fun _ _ => rfl) (fun _ _ => rfl)
    (fun _ _ _ => rfl) (fun _ _ => rfl) (fun _ _ => rfl) (fun _ _ _ => rfl) (fun _ _ => rfl)
    (fun _ _ => rfl) (fun _ _ => rfl) (fun _ _ => rfl) (fun _ _ => rfl) (fun _ _ => rfl)
    (fun _ _ => rfl) (fun _ => rfl) s

/-! ## What a boundary makes of the timer -/

/-- R3, R12: the beginning of a block sets the timer's block number, last boundary and status. -/
@[simp] theorem State.beginBlock_timer (st : CaptureStatus) (t : Time) (v : Vector (List Sample) 16)
    (s : State) : (s.beginBlock st t v).timer =
      { s.timer with block := s.timer.block + 1, lastBoundary := t, status := st } := rfl

/-- R12: the capture port holds the frame's samples in a GOOD block, silence in any other. -/
@[simp] theorem State.beginBlock_capture (st : CaptureStatus) (t : Time) (v : Vector (List Sample) 16)
    (s : State) : (s.beginBlock st t v).capture = if st = .good then v else silence := rfl

/-- R3, R12: the timer after a whole boundary. -/
@[simp] theorem State.boundary_timer (st : CaptureStatus) (t : Time) (v : Vector (List Sample) 16)
    (s : State) : (s.boundary st t v).timer =
      { s.timer with block := s.timer.block + 1, lastBoundary := t, status := st } := by
  simp [State.boundary]

/-- R12: the capture port after a whole boundary. -/
@[simp] theorem State.boundary_capture (st : CaptureStatus) (t : Time) (v : Vector (List Sample) 16)
    (s : State) : (s.boundary st t v).capture = if st = .good then v else silence := by
  simp [State.boundary]

/-- R14: the timer after a verdict is carried out. -/
@[simp] theorem State.judged_timer (v : Verdict) (s : State) : (s.judged v).timer = v.timer := by
  simp only [State.judged]
  split <;> simp

/-- The timer after an event of the timer. -/
theorem State.timerEvent_timer (v : Verdict) (t : Time) (x : Vector (List Sample) 16) (s : State) :
    (s.timerEvent v t x).timer = match v.boundary with
      | none => v.timer
      | some st => { v.timer with block := v.timer.block + 1, lastBoundary := t, status := st } := by
  cases h : v.boundary <;> simp [State.timerEvent, h]

/-- Log entry 2: with nothing due before t, nothing is caught up. -/
theorem State.catchUp_of_not_due {t : Time} {s : State} (h : ¬ s.timer.dueTime < t) :
    s.catchUp t = s := by
  simp [State.catchUp, Timer.catchUpCount, State.catchUpFuel, h]

/-- R4 to R10: the timer after a capture frame, with nothing overdue. -/
theorem State.frameArrives_timer {bytes : List Byte} {t : Time} {s : State}
    (h : ¬ s.timer.dueTime < t) : (s.frameArrives bytes t).timer =
      match (s.frameVerdict bytes t).boundary with
      | none => (s.frameVerdict bytes t).timer
      | some st =>
        { (s.frameVerdict bytes t).timer with
          block := (s.frameVerdict bytes t).timer.block + 1, lastBoundary := t, status := st } := by
  rw [State.frameArrives, State.catchUp_of_not_due h, State.takeCapture, State.timerEvent_timer]

/-- R7, R8: the timer after its own next event. -/
theorem State.dueEvent_timer (s : State) : s.dueEvent.timer =
    match s.timer.onDue.boundary with
    | none => s.timer.onDue.timer
    | some st =>
      { s.timer.onDue.timer with
        block := s.timer.onDue.timer.block + 1, lastBoundary := s.timer.dueTime, status := st } :=
  State.timerEvent_timer _ _ _ s

end Sys2Proof.Machine
end

