-- ==== Sys2Proof/Laws/CommandFrames.lean ====
section
/-! SUPPORT. What the client commands, the command places and the port's grants leave as they are. A
command changes settings, records and lists; it never touches the capture port, the speaker frame, the
memory, the estimator's work, the holds of granted writes or the queue. -/

namespace Sys2Proof.Machine

/-- An observer that sees nothing a client command changes: it sees only the capture port, the speaker
frame, the memory, the estimator's work, the client-write holds of granted writes and the queue. -/
structure BlindToCommands {β : Type} (f : State → β) : Prop where
  timer : ∀ g s, f (State.modTimer g s) = f s
  lock : ∀ v s, f (State.setLinkLock v s) = f s
  link : ∀ l g s, f (State.modLink l g s) = f s
  links : ∀ g s, f (State.mapLinks g s) = f s
  zone : ∀ z g s, f (State.modZone z g s) = f s
  zones : ∀ g s, f (State.mapZones g s) = f s
  beam : ∀ b g s, f (State.modBeam b g s) = f s
  beams : ∀ g s, f (State.mapBeams g s) = f s
  segs : ∀ v s, f (State.setSegs v s) = f s
  pool : ∀ g s, f (State.modPool g s) = f s
  sched : ∀ g s, f (State.modSched g s) = f s
  jobs : ∀ v s, f (State.setJobs v s) = f s
  port : ∀ g s, f (State.modPort g s) = f s
  draw : ∀ s, f (State.draw s) = f s

/-- The capture port is one. -/
theorem blind_capture : BlindToCommands State.capture := by constructor <;> intros <;> rfl
/-- The speaker frame is one. -/
theorem blind_speaker : BlindToCommands State.speaker := by constructor <;> intros <;> rfl
/-- The memory is one. -/
theorem blind_mem : BlindToCommands State.mem := by constructor <;> intros <;> rfl
/-- The estimator's work is one. -/
theorem blind_work : BlindToCommands State.work := by constructor <;> intros <;> rfl
/-- The client-write holds are one. -/
theorem blind_writeHold : BlindToCommands State.writeHold := by constructor <;> intros <;> rfl
/-- The queue is one. -/
theorem blind_pending : BlindToCommands State.pending := by constructor <;> intros <;> rfl

variable {β : Type} {f : State → β} (h : BlindToCommands f)
include h

/-- R148: queueing a job is not seen. -/
theorem BlindToCommands.queueJob (j : Job) (s : State) : f (s.queueJob j) = f s :=
  State.queueJob_obs f h.link h.links h.beam h.sched h.jobs j s

/-- R34: a setting is not seen. -/
theorem BlindToCommands.storeSetting (b : Beam) (lo hi : Nat) (v : Int)
    (put : Nat → BeamSettings → BeamSettings) (s : State) : f (storeSetting b lo hi v put s).1 = f s :=
  h.beam b (fun k => { k with set := put (clampSetting lo hi v) k.set }) s

/-- R70: the enable setting is not seen. -/
theorem BlindToCommands.setEnable (b : Beam) (v : Int) (s : State) : f (setEnable b v s).1 = f s := by
  simp only [Machine.setEnable]
  (repeat' split) <;> simp only [refuse, done, refuseOverLimit, State.disableBeam, h.pool, h.beam,
    State.abandonPass_obs f h.sched, State.abortCapture_obs f h.link h.links h.beam h.jobs]

/-- R34: SET BEAM is not seen. -/
theorem BlindToCommands.setBeam (beam k : Byte) (v : BitVec 64) (s : State) :
    f (runSetBeam beam k v s).1 = f s := by
  simp only [runSetBeam]
  split <;>
    simp only [h.setEnable, h.storeSetting, setStep, setTrigger, setRegularisation, setFarThreshold,
      setCoupling, setNearFloor, setEntryCount, setNormalCount, setHangoverCount, setDivergenceMargin,
      setDivergenceCount, setTargetRatio, setCaptureRatio, setCaptureCount, setCaptureInterval,
      setSuppressionGain, setDoubleTalkGain, setRestoreGain, setRampStep, setBeamLimit, refuse] <;>
    (repeat' split) <;> simp only [h.storeSetting, State.withdraw_obs f h.sched, done, h.beam]

/-- R35: SET DEVICE is not seen. -/
theorem BlindToCommands.setDevice (k i : Byte) (v : BitVec 32) (s : State) :
    f (runSetDevice k i v s).1 = f s := by
  simp only [runSetDevice]
  split <;>
    simp only [setClientShare, setHoldLimit, setLinkLockCount, setCaptureLockCount, setZoneLimit,
      setZoneMute, h.port, h.sched, h.lock, h.timer, h.zone, refuse] <;>
    (repeat' split) <;> simp only [done, h.zone]

/-- R72: an accepted MAP SEGMENTS is not seen. -/
theorem BlindToCommands.mapRange (l : Link) (b : Beam) (z : Zone) (ps : List Pos) (s : State) :
    f (s.mapRange l b z ps) = f s := by
  simp only [State.mapRange, h.queueJob, State.noteAllocation_obs f h.link h.links h.pool,
    State.dropAnchor_obs f h.beam, h.pool, h.segs]

/-- R77: turning anchoring on is not seen. -/
theorem BlindToCommands.anchoringOn (b : Beam) (s : State) : f (s.anchoringOn b) = f s := by
  simp only [State.anchoringOn, State.setAnchoringSwitch,
    State.noteAllocation_obs f h.link h.links h.pool, State.dropAnchor_obs f h.beam, h.beam, h.pool,
    h.segs]

/-- R78: turning it off is not seen. -/
theorem BlindToCommands.anchoringOff (b : Beam) (s : State) : f (s.anchoringOff b) = f s := by
  simp only [State.anchoringOff, State.setAnchoringSwitch, State.dropAnchor_obs f h.beam, h.beam,
    State.dropRepairsOf_obs f h.port, h.segs]

omit h in
/-- R33: a query is seen only by what it clears. -/
theorem queryReply_obs (c : Byte) (r : List Byte) (g : State → State) (s : State)
    (hg : f (g s) = f s) : f (queryReply c r g s).1 = f s := by
  simp only [queryReply]
  (repeat' split) <;> simp only [refuse, report, hg]

/-- R29: no command in execution is seen. -/
theorem BlindToCommands.runCommand (l : Link) (c : Command) (s : State) :
    f (runCommand l c s).1 = f s := by
  cases c
  case queryTimer => exact queryReply_obs _ _ _ _ (h.timer _ _)
  case queryLink => exact queryReply_obs _ _ _ _ (h.link _ _ _)
  case queryPool => exact queryReply_obs _ _ _ _ (h.pool _ _)
  case queryMemory => exact queryReply_obs _ _ _ _ (h.port _ _)
  case queryScheduler =>
    refine (queryReply_obs _ _ _ _ ?_).trans (h.draw s)
    simp only [State.clearSchedulerCounters, h.beams, h.sched]
  case queryBeam =>
    simp only [Machine.runCommand, answered, runQueryBeam]
    split
    · exact queryReply_obs _ _ _ _ (h.beam _ _ _)
    · rfl
  case setBeam => exact h.setBeam _ _ _ s
  case setDevice => exact h.setDevice _ _ _ s
  all_goals
    simp only [Machine.runCommand, answered, runSetMix, runSetReceive,
      runFreeze, runThaw, runSetAccessMode, runSetNoticeMask, runClearNotices, runSetRotation,
      runSetBottom, runRetrainBeam, runResetProcessing, runMapSegments, runUnmapSegments, runSetWindow,
      runPinSegments, runUnpinSegments, runSetAnchoring, runCheckpointBeam, runRestoreBeam, runClearBeam,
      runFillSegments, runReadCoefficients, runWriteCoefficients, runQueryPath]
  all_goals
    (repeat' split) <;> simp only [done, refuse, report, refuseOverLimit, refusePoolShort,
      h.queueJob, h.mapRange, h.anchoringOn, h.anchoringOff, h.link, h.beam, h.sched, h.zone, h.beams,
      h.zones, h.pool, h.segs, State.unmapRange, State.pinRange, State.withdrawRange,
      State.dropRepairsOf_obs f h.port, State.setLatch_obs f h.beam, State.withdraw_obs f h.sched]

/-- R29: nor are the commands a link takes in turn. -/
theorem BlindToCommands.drainFuel (l : Link) (n : Nat) (s : State) :
    f (State.drainFuel l n s) = f s := by
  induction n generalizing s with
  | zero => rfl
  | succ n ih =>
    simp only [State.drainFuel]
    (repeat' split) <;> simp only [ih, State.answer, h.link, h.runCommand]

/-- R29: nor all of them. -/
theorem BlindToCommands.drain (l : Link) (s : State) : f (s.drain l) = f s := h.drainFuel l _ s

/-- R28: the arrival of a command is not seen. -/
theorem BlindToCommands.arrive (l : Link) (tag : Byte) (c : Command) (s : State) :
    f (s.arrive l tag c) = f s := by
  simp only [State.arrive]
  (repeat' split) <;> simp only [h.drain, h.link]

/-- R20: nor that of a record. -/
theorem BlindToCommands.submit (l : Link) (tag n : Byte) (ps : List Byte) (s : State) :
    f (s.submit l tag n ps) = f s := by
  simp only [State.submit]
  (repeat' split) <;> simp only [h.arrive, h.link]

/-- R18 to R24, R28: nor that of a link's frame. -/
theorem BlindToCommands.inbound (l : Link) (bytes : List Byte) (s : State) :
    f (s.inbound l bytes) = f s := by
  simp only [State.inbound, State.takeRecord]
  (repeat' split) <;> simp only [h.arrive, h.link]

/-- R184: the end of a store request is not seen. -/
theorem BlindToCommands.finishStore (l : Link) (r : Response) (s : State) :
    f (s.finishStore l r) = f s := by
  simp only [State.finishStore, State.endRequest, State.answer, h.drain, h.link]

/-- R169: nor is its charge. -/
theorem BlindToCommands.chargeStore (l : Link) (s : State) : f (s.chargeStore l) = f s := by
  simp only [State.chargeStore]
  split <;> simp only [State.charge_obs f h.port, h.port]

/-- R182: nor is the grant of a read. -/
theorem BlindToCommands.storeRead (l : Link) (r : StoreRequest) (e : Segment) (s : State) :
    f (s.storeRead l r e) = f s := by
  simp only [State.storeRead, h.finishStore, h.chargeStore,
    State.noteWords_obs f h.link h.links h.beam h.segs h.jobs h.port]

/-- R182: nor is the row STORE_READ_GRANT's. -/
theorem BlindToCommands.grantStoreRead (l : Link) (s : State) : f (s.grantStoreRead l) = f s := by
  simp only [State.grantStoreRead]
  (repeat' split) <;> simp only [h.storeRead]

/-- R178: nor is a scrub read. -/
theorem BlindToCommands.scrubRead (p : Page) (s : State) : f (s.scrubRead p) = f s := by
  simp only [State.scrubRead, State.chargeCare, State.charge_obs f h.port, h.port,
    State.noteWords_obs f h.link h.links h.beam h.segs h.jobs h.port]

end Sys2Proof.Machine
end

