-- ==== Sys2Proof/Laws/Links.lean ====
section
/-! SUPPORT. The command places (02 R28 to R30): what the arrival of a command at a link does. -/

namespace Sys2Proof.Machine

/-- An ANSWER place is not executing. -/
theorem Place.isExecuting_of_isAnswer {p : Place} (h : p.isAnswer = true) : p.isExecuting = false := by
  cases p with
  | mk tag stage => cases stage <;> simp_all [Place.isAnswer, Place.isExecuting]

/-- An ANSWER place is not queued. -/
theorem Place.queued?_of_isAnswer {p : Place} (h : p.isAnswer = true) : p.queued? = none := by
  cases p with
  | mk tag stage => cases stage <;> simp_all [Place.isAnswer, Place.queued?]

/-- `modFirst` passes over places that fail its test. -/
theorem modFirst_append (p : Place → Bool) (f : Place → Place) (xs ys : List Place)
    (h : ∀ x ∈ xs, p x = false) : modFirst p f (xs ++ ys) = xs ++ modFirst p f ys := by
  induction xs with
  | nil => rfl
  | cons x xs ih =>
    have hx : p x = false := h x (by simp)
    simp [modFirst, hx, ih fun y hy => h y (by simp [hy])]

/-- With every other place in ANSWER, a queued last place is the one to execute. -/
theorem nextCommand_queued_last (ps : List Place) (tag : Byte) (c : Command)
    (h : ∀ p ∈ ps, p.isAnswer = true) : nextCommand (ps ++ [⟨tag, .queued c⟩]) = some c := by
  have h1 : (ps.any Place.isExecuting) = false := by
    simpa using fun p hp => Place.isExecuting_of_isAnswer (h p hp)
  have h2 : ps.findSome? Place.queued? = none := by
    simpa using fun p hp => Place.queued?_of_isAnswer (h p hp)
  simp [nextCommand, h1, h2, Place.isExecuting, Place.queued?, List.findSome?_append]

/-- Among places in ANSWER there is no command to execute. -/
theorem nextCommand_answers (ps : List Place) (h : ∀ p ∈ ps, p.isAnswer = true) :
    nextCommand ps = none := by
  have h2 : ps.findSome? Place.queued? = none := by
    simpa using fun p hp => Place.queued?_of_isAnswer (h p hp)
  simp [nextCommand, h2]

/-- While a command executes, none is taken. -/
theorem nextCommand_executing (ps : List Place) (h : ps.any Place.isExecuting = true) :
    nextCommand ps = none := by
  simp [nextCommand, h]

/-- With every other place in ANSWER, a queued last place starts executing. -/
theorem startNext_queued_last (ps : List Place) (tag : Byte) (c : Command)
    (h : ∀ p ∈ ps, p.isAnswer = true) :
    startNext (ps ++ [⟨tag, .queued c⟩]) = ps ++ [⟨tag, .executing c⟩] := by
  rw [startNext, modFirst_append _ _ _ _ fun p hp => by simp [Place.queued?_of_isAnswer (h p hp)]]
  simp [modFirst, Place.queued?]

/-- With every other place in ANSWER, the executing last place takes the response. -/
theorem answerPlaces_executing_last (r : Response) (ps : List Place) (tag : Byte) (c : Command)
    (h : ∀ p ∈ ps, p.isAnswer = true) :
    answerPlaces r (ps ++ [⟨tag, .executing c⟩]) = ps ++ [⟨tag, .answer (r.record tag) 0⟩] := by
  rw [answerPlaces, modFirst_append _ _ _ _ fun p hp => Place.isExecuting_of_isAnswer (h p hp)]
  simp [modFirst, Place.isExecuting]

/-- A link with nothing to take is drained at once. -/
theorem drainFuel_of_none (l : Link) (n : Nat) (s : State)
    (h : nextCommand s.links[l].places = none) : s.drainFuel l n = s := by
  cases n with
  | zero => rfl
  | succ n => simp only [State.drainFuel, h]

/-- Giving a link the places it has changes nothing. -/
theorem modLink_id (l : Link) (f : LinkState → LinkState) (s : State)
    (h : f s.links[l] = s.links[l]) : s.modLink l f = s := by
  simp only [State.modLink, h]
  cases s
  simp

/-- The record of a response, byte by byte. -/
theorem Response.record_eq (tag : Byte) (r : Response) :
    r.record tag = tag :: r.status.code :: BitVec.ofNat 8 r.result.length ::
      BitVec.ofNat 8 (r.result.length / 256) :: r.result := by
  simp [Response.record, leBytes]

/-- A command that arrives at a ready link is taken at once, in the state in which its place is
EXECUTING. -/
theorem arrive_ready_run {s : State} {l : Link} (tag : Byte) (c : Command) (h : s.Ready l) :
    ∃ n, s.arrive l tag c =
      match (runCommand l c (s.execute l tag c)).2 with
      | none => (runCommand l c (s.execute l tag c)).1
      | some a => State.drainFuel l n ((runCommand l c (s.execute l tag c)).1.answer l a) := by
  refine ⟨s.links[l].places.length, ?_⟩
  have hnext := nextCommand_queued_last _ tag c h.answered
  have hstart := startNext_queued_last _ tag c h.answered
  have hlen : (s.links[l].places ++ [(⟨tag, .queued c⟩ : Place)]).length
      = s.links[l].places.length + 1 := by simp
  have hexec : ((s.modLink l fun k => { k with places := k.places ++ [⟨tag, .queued c⟩] }).modLink l
      fun k => { k with places := startNext k.places }) = s.execute l tag c := by
    rw [State.modLink_modLink]
    simp only [State.execute, State.modLink]
    congr 2
    simp only [Function.comp, hstart]
  simp only [State.arrive, h.locked, h.free, if_true, State.drain, State.modLink_self, hlen,
    State.drainFuel, hnext, hexec]
  all_goals cases (runCommand l c (s.execute l tag c)).2 <;> rfl

/-- R28, R29: a command that arrives at a ready link and is answered: the effect it has, with the
response in a new place. -/
theorem arrive_ready {s u : State} {l : Link} {tag : Byte} {c : Command} {r : Response}
    (h : s.Ready l) (hp : u.links[l].places = s.links[l].places)
    (hrun : runCommand l c (s.execute l tag c) = (u.execute l tag c, some r)) :
    s.arrive l tag c = u.respond l tag r.status.code r.result := by
  obtain ⟨n, hn⟩ := arrive_ready_run tag c h
  have hu : ∀ p ∈ u.links[l].places, p.isAnswer = true := by rw [hp]; exact h.answered
  have hans : (u.execute l tag c).answer l r = u.respond l tag r.status.code r.result := by
    simp only [State.answer, State.execute, State.respond, State.modLink_modLink]
    simp only [State.modLink]
    congr 2
    simp only [Function.comp, answerPlaces_executing_last r _ tag c hu, Response.record_eq]
  rw [hn, hrun]
  simp only [hans]
  apply drainFuel_of_none
  apply nextCommand_answers
  intro p hp'
  simp only [State.respond, State.modLink_self, List.mem_append, List.mem_singleton] at hp'
  rcases hp' with hp' | rfl
  · exact hu p hp'
  · rfl

/-- R182, R183: a command that arrives at a ready link and stays EXECUTING. -/
theorem arrive_ready_waiting {s u : State} {l : Link} {tag : Byte} {c : Command}
    (h : s.Ready l) (hrun : runCommand l c (s.execute l tag c) = (u.execute l tag c, none)) :
    s.arrive l tag c = u.execute l tag c := by
  obtain ⟨n, hn⟩ := arrive_ready_run tag c h
  rw [hn, hrun]

/-- R28: a LOCKED link with four places occupied discards a command, counted and noticed. -/
theorem arrive_full {s : State} {l : Link} (tag : Byte) (c : Command)
    (h : s.links[l].mode = .locked) (hp : 4 ≤ s.links[l].places.length) :
    s.arrive l tag c =
      s.modLink l fun k => { k.raise .overrun with cmdOverruns := k.cmdOverruns.bump } := by
  simp only [State.arrive, h, Nat.not_lt.mpr hp, if_false]

/-- In SEARCH no command is taken. -/
theorem arrive_search {s : State} {l : Link} (tag : Byte) (c : Command)
    (h : s.links[l].mode = .search) : s.arrive l tag c = s := by
  simp only [State.arrive, h]

/-- R29: behind a command that executes, an arriving command is queued. -/
theorem arrive_behind {s : State} {l : Link} (tag : Byte) (c : Command)
    (h : s.links[l].mode = .locked) (hp : s.links[l].places.length < 4)
    (hx : s.links[l].places.any Place.isExecuting = true) :
    s.arrive l tag c = s.modLink l fun k => { k with places := k.places ++ [⟨tag, .queued c⟩] } := by
  simp only [State.arrive, h, hp, if_true, State.drain]
  apply drainFuel_of_none
  apply nextCommand_executing
  simp only [State.modLink_self, List.any_append, hx, Bool.true_or]

end Sys2Proof.Machine
end

