-- ==== Sys2Proof/Laws/Commands.lean ====
section
/-! SUPPORT. A command in execution (02 R29): the place it occupies is all that `State.execute` changes,
so every reader of another field and every update of one passes over it. -/

namespace Sys2Proof.Machine

variable (l : Link) (tag : Byte) (c : Command) (s : State)

/-! ## What an execution leaves as it is -/

/-- An execution keeps `timer`. -/
@[simp] theorem State.execute_timer : (s.execute l tag c).timer = s.timer := rfl
/-- An execution keeps `capture`. -/
@[simp] theorem State.execute_capture : (s.execute l tag c).capture = s.capture := rfl
/-- An execution keeps `speaker`. -/
@[simp] theorem State.execute_speaker : (s.execute l tag c).speaker = s.speaker := rfl
/-- An execution keeps `linkLock`. -/
@[simp] theorem State.execute_linkLock : (s.execute l tag c).linkLock = s.linkLock := rfl
/-- An execution keeps `zones`. -/
@[simp] theorem State.execute_zones : (s.execute l tag c).zones = s.zones := rfl
/-- An execution keeps `beams`. -/
@[simp] theorem State.execute_beams : (s.execute l tag c).beams = s.beams := rfl
/-- An execution keeps `segs`. -/
@[simp] theorem State.execute_segs : (s.execute l tag c).segs = s.segs := rfl
/-- An execution keeps `pool`. -/
@[simp] theorem State.execute_pool : (s.execute l tag c).pool = s.pool := rfl
/-- An execution keeps `mem`. -/
@[simp] theorem State.execute_mem : (s.execute l tag c).mem = s.mem := rfl
/-- An execution keeps `work`. -/
@[simp] theorem State.execute_work : (s.execute l tag c).work = s.work := rfl
/-- An execution keeps `sched`. -/
@[simp] theorem State.execute_sched : (s.execute l tag c).sched = s.sched := rfl
/-- An execution keeps `jobs`. -/
@[simp] theorem State.execute_jobs : (s.execute l tag c).jobs = s.jobs := rfl
/-- An execution keeps `port`. -/
@[simp] theorem State.execute_port : (s.execute l tag c).port = s.port := rfl
/-- An execution keeps `writeHold`. -/
@[simp] theorem State.execute_writeHold : (s.execute l tag c).writeHold = s.writeHold := rfl
/-- An execution keeps `draws`. -/
@[simp] theorem State.execute_draws : (s.execute l tag c).draws = s.draws := rfl
/-- An execution keeps `pending`. -/
@[simp] theorem State.execute_pending : (s.execute l tag c).pending = s.pending := rfl

/-- The link of an execution, but for its places. -/
theorem State.execute_links_self : (s.execute l tag c).links[l] =
    { s.links[l] with places := s.links[l].places ++ [⟨tag, .executing c⟩] } := by
  simp [State.execute]

/-- Every other link is as before. -/
theorem State.execute_links_other {m : Link} (h : m ≠ l) :
    (s.execute l tag c).links[m] = s.links[m] := State.modLink_other l m _ s h

/-- An execution changes no link's field but its places. -/
theorem State.execute_link_field {α : Type} (f : LinkState → α)
    (hf : ∀ (k : LinkState) (ps : List Place), f { k with places := ps } = f k) (m : Link) :
    f (s.execute l tag c).links[m] = f s.links[m] := by
  by_cases h : m = l
  · subst h
    rw [State.execute_links_self, hf]
  · rw [State.execute_links_other l tag c s h]

/-- What is asked of any link's other fields has the same answer. -/
theorem State.execute_any (p : LinkState → Bool)
    (hp : ∀ (k : LinkState) (ps : List Place), p { k with places := ps } = p k) :
    (s.execute l tag c).links.toList.any p = s.links.toList.any p := by
  rw [Bool.eq_iff_iff, List.any_eq_true, List.any_eq_true]
  constructor
  · rintro ⟨k, hk, hpk⟩
    obtain ⟨i, hi, rfl⟩ := Vector.getElem_of_mem (Vector.mem_toList_iff.mp hk)
    have := State.execute_link_field l tag c s p hp ⟨i, hi⟩
    refine ⟨s.links[i], Vector.mem_toList_iff.mpr (Vector.getElem_mem hi), ?_⟩
    rw [← hpk]
    exact this.symm
  · rintro ⟨k, hk, hpk⟩
    obtain ⟨i, hi, rfl⟩ := Vector.getElem_of_mem (Vector.mem_toList_iff.mp hk)
    have := State.execute_link_field l tag c s p hp ⟨i, hi⟩
    refine ⟨(s.execute l tag c).links[i], Vector.mem_toList_iff.mpr (Vector.getElem_mem hi), ?_⟩
    rw [← hpk]
    exact this

/-- The freeze source of the mask. -/
@[simp] theorem State.execute_frozen (b : Beam) : (s.execute l tag c).frozen b = s.frozen b :=
  State.execute_any l tag c s _ fun _ _ => rfl

/-- The client-write source of the mask. -/
@[simp] theorem State.execute_writeHeld (b : Beam) : (s.execute l tag c).writeHeld b = s.writeHeld b := by
  simp only [State.writeHeld, State.execute_writeHold]
  rw [State.execute_any l tag c s (LinkState.writesTo b) fun _ _ => rfl]

/-- The mask. -/
@[simp] theorem State.execute_masked (b : Beam) : (s.execute l tag c).masked b = s.masked b := by
  simp only [State.masked, State.execute_frozen, State.execute_writeHeld]
  rfl

/-! ## Updates of other fields pass over an execution -/

/-- `modTimer` passes over an execution. -/
theorem State.execute_modTimer (f : Timer → Timer) :
    (s.execute l tag c).modTimer f = (s.modTimer f).execute l tag c := rfl
/-- `setLinkLock` passes over an execution. -/
theorem State.execute_setLinkLock (v : Nat) :
    (s.execute l tag c).setLinkLock v = (s.setLinkLock v).execute l tag c := rfl
/-- `modZone` passes over an execution. -/
theorem State.execute_modZone (z : Zone) (f : ZoneState → ZoneState) :
    (s.execute l tag c).modZone z f = (s.modZone z f).execute l tag c := rfl
/-- `mapZones` passes over an execution. -/
theorem State.execute_mapZones (f : ZoneState → ZoneState) :
    (s.execute l tag c).mapZones f = (s.mapZones f).execute l tag c := rfl
/-- `modBeam` passes over an execution. -/
theorem State.execute_modBeam (b : Beam) (f : BeamState → BeamState) :
    (s.execute l tag c).modBeam b f = (s.modBeam b f).execute l tag c := rfl
/-- `mapBeams` passes over an execution. -/
theorem State.execute_mapBeams (f : BeamState → BeamState) :
    (s.execute l tag c).mapBeams f = (s.mapBeams f).execute l tag c := rfl
/-- `setSegs` passes over an execution. -/
theorem State.execute_setSegs (v : List Segment) :
    (s.execute l tag c).setSegs v = (s.setSegs v).execute l tag c := rfl
/-- `modPool` passes over an execution. -/
theorem State.execute_modPool (f : Pool → Pool) :
    (s.execute l tag c).modPool f = (s.modPool f).execute l tag c := rfl
/-- `modSched` passes over an execution. -/
theorem State.execute_modSched (f : Scheduler → Scheduler) :
    (s.execute l tag c).modSched f = (s.modSched f).execute l tag c := rfl
/-- `setJobs` passes over an execution. -/
theorem State.execute_setJobs (v : List Job) :
    (s.execute l tag c).setJobs v = (s.setJobs v).execute l tag c := rfl
/-- `modPort` passes over an execution. -/
theorem State.execute_modPort (f : Port → Port) :
    (s.execute l tag c).modPort f = (s.modPort f).execute l tag c := rfl
/-- `draw` passes over an execution. -/
theorem State.execute_draw : (s.execute l tag c).draw = s.draw.execute l tag c := rfl

/-- A change of a link that passes over a change of its places leaves the places. -/
theorem places_of_passes (f : LinkState → LinkState)
    (hf : ∀ (k : LinkState) (ps : List Place), f { k with places := ps } = { f k with places := ps })
    (k : LinkState) : (f k).places = k.places := by
  have h : f k = { f k with places := k.places } := hf k k.places
  rw [h]

/-- An update of the executing link that leaves its places, and reads none, passes over the execution. -/
theorem State.execute_modLink_self (f : LinkState → LinkState)
    (hf : ∀ (k : LinkState) (ps : List Place), f { k with places := ps } = { f k with places := ps }) :
    (s.execute l tag c).modLink l f = (s.modLink l f).execute l tag c := by
  simp only [State.execute, State.modLink_modLink]
  simp only [State.modLink, Function.comp]
  congr 2
  have h := places_of_passes f hf
  rw [hf, h]

/-- A change of every link that leaves the places, and reads none, passes over the execution. -/
theorem State.execute_mapLinks (f : LinkState → LinkState)
    (hf : ∀ (k : LinkState) (ps : List Place), f { k with places := ps } = { f k with places := ps }) :
    (s.execute l tag c).mapLinks f = (s.mapLinks f).execute l tag c := by
  have h := places_of_passes f hf
  simp only [State.mapLinks, State.execute, State.modLink]
  congr 1
  apply Vector.ext
  intro i hi
  simp only [vmap_getElem, Vector.getElem_set, vmap_getElem_fin]
  split
  · rw [hf, h]
  · rfl

end Sys2Proof.Machine
end

