-- ==== Sys2Proof/Laws/Jobs.lean ====
section
/-! SUPPORT. The job list (09): when the head stays, when it completes, and where a new job goes. -/

namespace Sys2Proof.Machine

/-- R151: a head with work left stays. -/
theorem State.settle_of_hasWork {s : State} {j : Job} {rest : List Job} (h : s.jobs = j :: rest)
    (hw : s.hasWork j = true) : s.settle = s := by
  simp [State.settle, h, State.settleFuel, hw]

/-- An empty list stays. -/
theorem State.settle_of_nil {s : State} (h : s.jobs = []) : s.settle = s := by
  simp [State.settle, h, State.settleFuel]

/-- R151: a head with no work left leaves the list and completes, and the next becomes head. -/
theorem State.settle_of_done {s : State} {j : Job} {rest : List Job} (h : s.jobs = j :: rest)
    (hw : s.hasWork j = false) : s.settle = ((s.setJobs rest).completeJob j).settle := by
  simp [State.settle, h, State.settleFuel, hw]

/-- What a table gives a job depends on the table alone. -/
theorem State.jobNext_congr {s t : State} (h : t.segs = s.segs) (j : Job) : t.jobNext j = s.jobNext j := by
  cases j <;> simp [State.jobNext, State.seg?, h]

/-- Whether a job has work depends on the table alone. -/
theorem State.hasWork_congr {s t : State} (h : t.segs = s.segs) (j : Job) : t.hasWork j = s.hasWork j := by
  simp [State.hasWork, State.jobNext_congr h]

/-- R148: a CAPTURE, FILL or ZERO goes to the end. -/
theorem enqueue_last {j : Job} (h : j.isRestoreClass = false) (js : List Job) :
    enqueue j js = js ++ [j] := by
  simp [enqueue, h]

/-- R148: a RESTORE or CLEAR goes after the last of those. -/
theorem enqueue_restoreClass {j : Job} (h : j.isRestoreClass = true) (js : List Job) :
    enqueue j js = js.takeWhile Job.isRestoreClass ++ j :: js.dropWhile Job.isRestoreClass := by
  simp [enqueue, h]

/-- What the new list holds. -/
theorem mem_enqueue {j k : Job} {js : List Job} : k ∈ enqueue j js ↔ k = j ∨ k ∈ js := by
  by_cases h : j.isRestoreClass = true
  · rw [enqueue_restoreClass h]
    conv_rhs => rw [← List.takeWhile_append_dropWhile (p := Job.isRestoreClass) (l := js)]
    simp only [List.mem_append, List.mem_cons]
    tauto
  · rw [enqueue_last (by simpa using h)]
    simp only [List.mem_append, List.mem_singleton]
    tauto

/-- R148, R151: when every job listed and the new one have work, queueing places the job and completes
none. -/
theorem State.queueJob_of_work {s : State} {j : Job} (hj : s.hasWork j = true)
    (hs : ∀ k ∈ s.jobs, s.hasWork k = true) :
    s.queueJob j = (s.beforeQueue j).setJobs (enqueue j s.jobs) := by
  have hq : ((s.beforeQueue j).setJobs (enqueue j (s.beforeQueue j).jobs)).segs = s.segs := by simp
  simp only [State.queueJob]
  rcases hl : enqueue j (s.beforeQueue j).jobs with _ | ⟨k, ks⟩
  · rw [State.settle_of_nil (by simp), ← hl]
    simp
  · have hk : k = j ∨ k ∈ s.jobs := by
      have : k ∈ enqueue j (s.beforeQueue j).jobs := by rw [hl]; simp
      simpa using mem_enqueue.mp this
    have hw : ((s.beforeQueue j).setJobs (k :: ks)).hasWork k = true := by
      rw [State.hasWork_congr (s := s) (by simp)]
      rcases hk with rfl | hk
      · exact hj
      · exact hs k hk
    rw [State.settle_of_hasWork (j := k) (rest := ks) (by simp) hw, ← hl]
    simp

end Sys2Proof.Machine
end

