-- ==== Sys2Proof/Laws/Memory.lean ====
section
/-! SUPPORT. The DRAM (10): every write keeps the canonical form, a byte or word written reads back, and
every other byte and word reads as before. -/

namespace Sys2Proof.Machine

/-! ## Bytes -/

/-- Past a lower bound of its addresses a canonical memory lists nothing below. -/
theorem Memory.wfFrom_mono {lo hi : Nat} {m : List Host.Cell} (h : Memory.wfFrom hi m = true)
    (hl : lo ≤ hi) : Memory.wfFrom lo m = true := by
  cases m with
  | nil => rfl
  | cons c m =>
    obtain ⟨k, v⟩ := c
    simp only [Memory.wfFrom, Bool.and_eq_true, decide_eq_true_eq] at h ⊢
    exact ⟨⟨by omega, h.1.2⟩, h.2⟩

/-- Below the lower bound a canonical memory reads as unwritten. -/
theorem readByte_below {lo a : Nat} {m : List Host.Cell} (h : Memory.wfFrom lo m = true)
    (ha : a < lo) : readByte m a = unwrittenByte := by
  induction m generalizing lo with
  | nil => rfl
  | cons c m ih =>
    obtain ⟨k, v⟩ := c
    simp only [Memory.wfFrom, Bool.and_eq_true, decide_eq_true_eq] at h
    simp only [readByte, if_neg (show k ≠ a by omega)]
    exact ih h.2 (by omega)

/-- A byte written keeps the canonical form above any bound not above it. -/
theorem Memory.wfFrom_writeByte {lo a : Nat} {m : List Host.Cell} (v : Byte)
    (h : Memory.wfFrom lo m = true) (ha : lo ≤ a) : Memory.wfFrom lo (writeByte m a v) = true := by
  induction m generalizing lo with
  | nil =>
    simp only [writeByte]
    split
    · rfl
    · simp_all [Memory.wfFrom]
  | cons c m ih =>
    obtain ⟨k, x⟩ := c
    simp only [Memory.wfFrom, Bool.and_eq_true, decide_eq_true_eq] at h
    obtain ⟨⟨hk, hx⟩, hm⟩ := h
    simp only [writeByte]
    split
    · split
      · simp only [Memory.wfFrom, Bool.and_eq_true, decide_eq_true_eq]
        exact ⟨⟨hk, hx⟩, hm⟩
      · rename_i hlt hv
        simp only [Memory.wfFrom, Bool.and_eq_true, decide_eq_true_eq]
        exact ⟨⟨ha, by simpa using hv⟩, ⟨⟨by omega, hx⟩, hm⟩⟩
    · split
      · rename_i hlt heq
        subst heq
        split
        · exact Memory.wfFrom_mono hm (by omega)
        · rename_i hv
          simp only [Memory.wfFrom, Bool.and_eq_true, decide_eq_true_eq]
          exact ⟨⟨hk, by simpa using hv⟩, hm⟩
      · simp only [Memory.wfFrom, Bool.and_eq_true, decide_eq_true_eq]
        exact ⟨⟨hk, hx⟩, ih hm (by omega)⟩

/-- What a byte reads as after a write of one byte. -/
theorem readByte_writeByte {lo : Nat} {m : List Host.Cell} (a b : Nat) (v : Byte)
    (h : Memory.wfFrom lo m = true) :
    readByte (writeByte m a v) b = if a = b then v else readByte m b := by
  induction m generalizing lo with
  | nil =>
    simp only [writeByte]
    split
    · rename_i hv; simp [readByte, hv]
    · simp [readByte]
  | cons c m ih =>
    obtain ⟨k, x⟩ := c
    simp only [Memory.wfFrom, Bool.and_eq_true, decide_eq_true_eq] at h
    obtain ⟨⟨hk, hx⟩, hm⟩ := h
    simp only [writeByte]
    split
    · rename_i hlt
      split
      · rename_i hv
        split
        · rename_i hab
          subst hab
          rw [hv]
          simp only [readByte, if_neg (show k ≠ a by omega)]
          exact readByte_below hm (by omega)
        · rfl
      · simp only [readByte]
    · split
      · rename_i hlt heq
        subst heq
        split
        · rename_i hv
          split
          · rename_i hab
            subst hab
            rw [hv]
            exact readByte_below hm (by omega)
          · rename_i hab
            simp only [readByte, if_neg hab]
        · simp only [readByte]
          split <;> rfl
      · rename_i hlt hne
        simp only [readByte, ih hm]
        split
        · rename_i hkb
          rw [if_neg (by omega)]
        · rfl

/-- Bytes written keep the canonical form. -/
theorem Memory.wf_writeBytes {m : List Host.Cell} (a : Nat) (bs : List Byte)
    (h : Memory.wf m = true) : Memory.wf (writeBytes m a bs) = true := by
  induction bs generalizing m a with
  | nil => exact h
  | cons b bs ih => exact ih _ (Memory.wfFrom_writeByte b h (by omega))

/-- What a byte reads as after bytes are written from an address on. -/
theorem readByte_writeBytes {m : List Host.Cell} (a b : Nat) (bs : List Byte)
    (h : Memory.wf m = true) :
    readByte (writeBytes m a bs) b =
      if a ≤ b ∧ b < a + bs.length then bs.getD (b - a) 0 else readByte m b := by
  induction bs generalizing m a with
  | nil => simp [writeBytes, show ¬(a ≤ b ∧ b < a) by omega]
  | cons v bs ih =>
    simp only [writeBytes]
    rw [ih (a + 1) (Memory.wfFrom_writeByte v h (by omega))]
    by_cases hb : a + 1 ≤ b ∧ b < a + 1 + bs.length
    · rw [if_pos hb, if_pos (by simp only [List.length_cons]; omega)]
      rw [show b - a = (b - (a + 1)) + 1 by omega, List.getD_cons_succ]
    · rw [if_neg hb, readByte_writeByte a b v h]
      by_cases hab : a = b
      · subst hab
        simp
      · rw [if_neg hab, if_neg (by simp only [List.length_cons]; omega)]

/-! ## Words -/

/-- A word's bytes are nine. -/
@[simp] theorem wordBytes_length (d : DataWord) : (wordBytes d).length = 9 := rfl

/-- A word written keeps the canonical form. -/
theorem Memory.wf_writeWord {m : List Host.Cell} (p : Page) (i : Nat) (d : DataWord)
    (h : Memory.wf m = true) : Memory.wf (writeWord m p i d) = true :=
  Memory.wf_writeBytes _ _ h

/-- Words written keep the canonical form. -/
theorem Memory.wf_writeWords {m : List Host.Cell} (p : Page) (i : Nat) (ds : List DataWord)
    (h : Memory.wf m = true) : Memory.wf (writeWords m p i ds) = true := by
  induction ds generalizing m i with
  | nil => exact h
  | cons d ds ih => exact ih (i + 1) (Memory.wf_writeWord p i d h)

/-- A byte outside a word reads as before the word was written. -/
theorem readByte_writeWord_outside {m : List Host.Cell} (p : Page) (i b : Nat) (d : DataWord)
    (h : Memory.wf m = true) (hb : b < wordBase p i ∨ wordBase p i + 9 ≤ b) :
    readByte (writeWord m p i d) b = readByte m b := by
  rw [writeWord, readByte_writeBytes _ _ _ h, if_neg (by rw [wordBytes_length]; omega)]

/-- A byte outside the words written reads as before. -/
theorem readByte_writeWords_outside {m : List Host.Cell} (p : Page) (i b : Nat) (ds : List DataWord)
    (h : Memory.wf m = true) (hb : b < wordBase p i ∨ wordBase p (i + ds.length) ≤ b) :
    readByte (writeWords m p i ds) b = readByte m b := by
  induction ds generalizing m i with
  | nil => rfl
  | cons d ds ih =>
    simp only [writeWords]
    have hw : wordBase p (i + (d :: ds).length) = wordBase p (i + 1 + ds.length) := by
      congr 1
      simp only [List.length_cons]
      omega
    rw [hw] at hb
    rw [ih (i + 1) (Memory.wf_writeWord p i d h) (by simp only [wordBase] at hb ⊢; omega),
      readByte_writeWord_outside p i b d h (by simp only [wordBase] at hb ⊢; omega)]

/-- A 64-bit number is the sum of its bytes at their weights. -/
theorem sum_of_bytes (n : Nat) (h : n < 2 ^ 64) :
    n / 2 ^ 0 % 2 ^ 8 * 256 ^ 0 + (n / 2 ^ 8 % 2 ^ 8 * 256 ^ 1 + (n / 2 ^ 16 % 2 ^ 8 * 256 ^ 2
      + (n / 2 ^ 24 % 2 ^ 8 * 256 ^ 3 + (n / 2 ^ 32 % 2 ^ 8 * 256 ^ 4 + (n / 2 ^ 40 % 2 ^ 8 * 256 ^ 5
      + (n / 2 ^ 48 % 2 ^ 8 * 256 ^ 6 + (n / 2 ^ 56 % 2 ^ 8 * 256 ^ 7 + 0))))))) = n := by
  omega

/-- A byte of a word as a number. -/
theorem extract_byte_toNat (d : DataWord) (k : Nat) :
    (d.extractLsb' (8 * k) 8).toNat = d.toNat / 2 ^ (8 * k) % 2 ^ 8 := by
  rw [BitVec.extractLsb'_toNat, Nat.shiftRight_eq_div_pow]

/-- A sum over eight places, written out. -/
theorem sum_range_eight (f : Nat → Nat) : ((List.range 8).map f).sum
    = f 0 + (f 1 + (f 2 + (f 3 + (f 4 + (f 5 + (f 6 + (f 7 + 0))))))) := by
  simp [List.range, List.range.loop]

/-- The bytes of a word give the word back. -/
theorem bytes_of_word (d : DataWord) :
    BitVec.ofNat 64 (((List.range 8).map fun k => (d.extractLsb' (8 * k) 8).toNat * 256 ^ k).sum)
      = d := by
  apply BitVec.eq_of_toNat_eq
  rw [sum_range_eight]
  simp only [extract_byte_toNat, BitVec.toNat_ofNat]
  rw [show ∀ n : Nat, n = d.toNat → n % 2 ^ 64 = d.toNat from
    fun n hn => by rw [hn]; exact Nat.mod_eq_of_lt d.isLt]
  exact sum_of_bytes d.toNat d.isLt

/-- The stored bytes of a word depend on its nine bytes only. -/
theorem readWord_congr {m n : List Host.Cell} (p : Page) (i : Nat)
    (h : ∀ k, k < 9 → readByte m (wordBase p i + k) = readByte n (wordBase p i + k)) :
    readWord m p i = readWord n p i := by
  have hd : storedData m p i = storedData n p i := by
    simp only [storedData]
    congr 2
    apply List.map_congr_left
    intro k hk
    rw [h k (by simp only [List.mem_range] at hk; omega)]
  have hc : storedCheck m p i = storedCheck n p i := h 8 (by omega)
  rw [readWord, readWord, hd, hc]

/-- The data and the check byte that a write of a word stores. -/
theorem stored_writeWord {m : List Host.Cell} (p : Page) (i : Nat) (d : DataWord)
    (h : Memory.wf m = true) :
    storedData (writeWord m p i d) p i = d ∧ storedCheck (writeWord m p i d) p i = checkByte d := by
  have hr : ∀ k, k < 9 → readByte (writeWord m p i d) (wordBase p i + k) = (wordBytes d).getD k 0 := by
    intro k hk
    rw [writeWord, readByte_writeBytes _ _ _ h, if_pos (by rw [wordBytes_length]; omega)]
    congr 1
    omega
  refine ⟨?_, ?_⟩
  · refine Eq.trans ?_ (bytes_of_word d)
    simp only [storedData]
    congr 2
    apply List.map_congr_left
    intro k hk
    simp only [List.mem_range] at hk
    rw [hr k (by omega)]
    congr 2
    interval_cases k <;> rfl
  · exact hr 8 (by omega)

/-! ## The code (R165, R166) -/

/-- A word and its own check byte have no syndrome. -/
theorem syndrome_checkByte (d : DataWord) : syndrome d (checkByte d) = 0 := by
  have hb : ∀ c0 c1 c2 c3 c4 c5 c6 c7 : Bool, ∀ m : Fin 7,
      (byteOfBits [c0, c1, c2, c3, c4, c5, c6, c7]).getLsbD m.val
        = [c0, c1, c2, c3, c4, c5, c6].getD m.val false := by decide
  have hm : ∀ m : Fin 7, checkBit d m.val = (checkByte d).getLsbD m.val := by
    intro m
    have := hb (checkBit d 0) (checkBit d 1) (checkBit d 2) (checkBit d 3) (checkBit d 4)
      (checkBit d 5) (checkBit d 6) (xor (dataParity d) (xorAll (checkBits d))) m
    refine Eq.trans ?_ this.symm
    fin_cases m <;> rfl
  have h0 : ((List.range 7).map fun m =>
      if checkBit d m != (checkByte d).getLsbD m then 2 ^ m else 0) = (List.range 7).map fun _ => 0 := by
    apply List.map_congr_left
    intro m hmem
    simp only [List.mem_range] at hmem
    have := hm ⟨m, hmem⟩
    simp only at this
    simp [this]
  rw [syndrome, h0]
  rfl

/-- A word and its own check byte have even parity. -/
theorem parityCheck_checkByte (d : DataWord) : parityCheck d (checkByte d) = false := by
  have hb : ∀ q c0 c1 c2 c3 c4 c5 c6 : Bool,
      xor q (xorAll ((List.range 8).map
        (byteOfBits [c0, c1, c2, c3, c4, c5, c6, xor q (xorAll [c0, c1, c2, c3, c4, c5, c6])]).getLsbD))
        = false := by decide
  exact hb (dataParity d) (checkBit d 0) (checkBit d 1) (checkBit d 2) (checkBit d 3) (checkBit d 4)
    (checkBit d 5) (checkBit d 6)

/-- R166: a word stored with its own check byte is clean. -/
theorem classify_checkByte (d : DataWord) : classify d (checkByte d) = .clean d := by
  simp [classify, syndrome_checkByte, parityCheck_checkByte]

/-- R165, R166: a word written reads back clean. -/
theorem readWord_writeWord {m : List Host.Cell} (p : Page) (i : Nat) (d : DataWord)
    (h : Memory.wf m = true) : readWord (writeWord m p i d) p i = .clean d := by
  obtain ⟨h1, h2⟩ := stored_writeWord p i d h
  rw [readWord, h1, h2, classify_checkByte]

/-- Every other word reads as before a word was written. -/
theorem readWord_writeWord_other {m : List Host.Cell} (p q : Page) (i j : Nat) (d : DataWord)
    (h : Memory.wf m = true) (hi : i < 128) (hj : j < 128) (hne : (q, j) ≠ (p, i)) :
    readWord (writeWord m p i d) q j = readWord m q j := by
  have hpq : q.val ≠ p.val ∨ j ≠ i := by
    by_contra hc
    push Not at hc
    exact hne (by rw [Fin.ext hc.1, hc.2])
  apply readWord_congr
  intro k hk
  apply readByte_writeWord_outside p i _ d h
  simp only [wordBase]
  omega

/-- The words of a page after a run of words is written to it. -/
theorem readWord_writeWords {m : List Host.Cell} (p : Page) (i j : Nat) (ds : List DataWord)
    (h : Memory.wf m = true) (hi : i + ds.length ≤ 128) (hj : j < 128) :
    readWord (writeWords m p i ds) p j =
      if i ≤ j ∧ j < i + ds.length then .clean (ds.getD (j - i) 0) else readWord m p j := by
  induction ds generalizing m i with
  | nil => simp [writeWords, show ¬(i ≤ j ∧ j < i) by omega]
  | cons d ds ih =>
    simp only [List.length_cons] at hi
    simp only [writeWords, List.length_cons]
    rw [ih (i + 1) (Memory.wf_writeWord p i d h) (by omega)]
    by_cases hb : i + 1 ≤ j ∧ j < i + 1 + ds.length
    · rw [if_pos hb, if_pos (by omega), show j - i = (j - (i + 1)) + 1 by omega, List.getD_cons_succ]
    · rw [if_neg hb]
      by_cases hij : i = j
      · subst hij
        rw [if_pos (by omega), readWord_writeWord p i d h]
        simp
      · rw [if_neg (by omega), readWord_writeWord_other p p i j d h (by omega) hj]
        simp only [ne_eq, Prod.mk.injEq, true_and]
        omega

end Sys2Proof.Machine
end

