-- ==== Sys2Proof/Laws/Operands.lean ====
section
/-! SUPPORT. Operand bytes (02 R33, R34), settings and their statuses, and what a refused or an accepted
command leaves at a ready link. -/

namespace Sys2Proof.Machine

/-! ## Beams, zones and positions -/

/-- A byte up to 15 is its beam. -/
theorem beamOf_eq {x : Byte} {b : Beam} (h : x.toNat = b.val) : beamOf x = some b := by
  have := b.isLt
  simp [beamOf, h]

/-- A byte up to 5 is its zone. -/
theorem zoneOf_eq {x : Byte} {z : Zone} (h : x.toNat = z.val) : zoneOf x = some z := by
  have := z.isLt
  simp [zoneOf, h]

/-- A byte up to 63 is its position. -/
theorem posOf_eq {x : Byte} {p : Pos} (h : x.toNat = p.val) : posOf x = some p := by
  have := p.isLt
  simp [posOf, h]

/-- A byte above 15 is no beam. -/
theorem beamOf_none {x : Byte} (h : 15 < x.toNat) : beamOf x = none := by
  simp only [beamOf, dite_eq_right_iff, reduceCtorEq, imp_false]
  omega

/-- A byte above 5 is no zone. -/
theorem zoneOf_none {x : Byte} (h : 5 < x.toNat) : zoneOf x = none := by
  simp only [zoneOf, dite_eq_right_iff, reduceCtorEq, imp_false]
  omega

/-- A byte above 63 is no position. -/
theorem posOf_none {x : Byte} (h : 63 < x.toNat) : posOf x = none := by
  simp only [posOf, dite_eq_right_iff, reduceCtorEq, imp_false]
  omega

/-! ## Settings -/

/-- What a setting stores. -/
theorem clampSetting_eq (lo hi : Nat) (v : Int) : clampSetting lo hi v = settingValue lo hi v := by
  unfold clampSetting settingValue clampInt
  split
  · simp
  · split <;> simp

/-- How a setting is answered. -/
theorem settingStatus_code (lo hi : Nat) (v : Int) :
    (settingStatus lo hi v).status.code = settingCode lo hi v := by
  unfold settingStatus settingCode inSetting
  by_cases h : (lo : Int) ≤ v ∧ v ≤ hi
  · simp only [h.1, h.2, decide_true, Bool.and_self, if_true, and_self]
    rfl
  · rw [if_neg h, if_neg (by simpa using h)]
    rfl

/-! ## Commands at a ready link -/

/-- R31: a refused command leaves its response and nothing else. -/
theorem arrive_refused {s : State} {l : Link} {tag : Byte} {c : Command} (st : Status) (h : s.Ready l)
    (hr : runCommand l c (s.execute l tag c) = answered (refuse st (s.execute l tag c))) :
    s.arrive l tag c = s.respond l tag st.code [] :=
  arrive_ready (u := s) h rfl (by rw [hr]; rfl)

/-- R31: a command that is DONE leaves its effect and its response. -/
theorem arrive_done {s u : State} {l : Link} {tag : Byte} {c : Command} (h : s.Ready l)
    (hu : u.links[l].places = s.links[l].places)
    (hr : runCommand l c (s.execute l tag c) = answered (done (u.execute l tag c))) :
    s.arrive l tag c = u.respond l tag 0 [] :=
  arrive_ready (u := u) h hu (by rw [hr]; rfl)

/-- R34: an integer setting of SET BEAM at a ready link. -/
theorem arrive_setting {s : State} {l : Link} {tag beam : Byte} {b : Beam} (h : s.Ready l) (k : Byte)
    (v : BitVec 64) (lo hi : Nat) (put : Nat → BeamSettings → BeamSettings)
    (hr : ∀ t, runSetBeam beam k v t = storeSetting b lo hi v.toInt put t) :
    s.arrive l tag (.setBeam beam k v) = s.settingStored l tag b lo hi v.toInt put := by
  have := arrive_ready (s := s)
    (u := s.modBeam b fun k => { k with set := put (clampSetting lo hi v.toInt) k.set })
    (r := settingStatus lo hi v.toInt) (tag := tag) (c := .setBeam beam k v) h rfl (by
      simp only [runCommand, answered, hr, storeSetting]
      rfl)
  rw [this, State.settingStored, settingStatus_code]
  simp only [clampSetting_eq]
  rfl

end Sys2Proof.Machine
end

