-- ==== Sys2Proof/Laws/Port.lean ====
section
/-! SUPPORT. The memory port (10): what a read of words that are all clean does, and a read of the
estimator with it. -/

namespace Sys2Proof.Machine

/-- Counting nothing leaves a counter. -/
@[simp] theorem Counter.add_zero (c : Counter) : c.add 0 = c := by
  apply BitVec.eq_of_toNat_eq
  have := c.isLt
  simp only [Counter.add, Nat.add_zero, BitVec.toNat_ofNat]
  omega

/-- Log entry 9: a word of the empty DRAM reads clean. -/
theorem readWord_nil (p : Page) (i : Nat) : readWord [] p i = .clean 0 := by
  have h : storedData [] p i = 0 := by
    simp [storedData, readByte, unwrittenByte]
  simp only [readWord, h, storedCheck, readByte, unwrittenByte]
  decide +kernel

/-- The words of a page, by index, all read clean. -/
def cleanWords (m : List Host.Cell) (p : Page) (is : List Nat) : Prop :=
  ∀ i ∈ is, ∃ d, readWord m p i = .clean d

/-- Every word of the empty DRAM reads clean. -/
theorem cleanWords_nil (p : Page) (is : List Nat) : cleanWords ([] : List Host.Cell) p is :=
  fun i _ => Exists.intro 0 (readWord_nil p i)

/-- The words of a read, when the memory holds them clean. -/
theorem State.readWords_clean {s : State} {p : Page} {is : List Nat} (h : cleanWords s.mem p is) :
    ∀ w ∈ s.readWords p is, ∃ d, w.2 = .clean d := by
  intro w hw
  rw [State.readWords] at hw
  obtain ⟨i, hi, rfl⟩ := List.mem_map.mp hw
  obtain ⟨d, hd⟩ := h i hi
  refine ⟨d, ?_⟩
  dsimp only
  exact hd

/-- R173, R174: clean words ask for nothing. -/
theorem State.noteWords_clean {ws : List (Nat × WordRead)} (h : ∀ w ∈ ws, ∃ d, w.2 = .clean d)
    (r : Reader) (o : Bool) (p : Page) (s : State) : s.noteWords r o p ws = s := by
  induction ws generalizing s with
  | nil => rfl
  | cons w ws ih =>
    obtain ⟨d, hd⟩ := h w (by simp)
    have hw : s.noteWord r o p w = s := by simp only [State.noteWord, hd]
    have ht := ih (fun v hv => h v (by simp [hv])) s
    simp only [State.noteWords, List.foldl_cons, hw] at ht ⊢
    exact ht

/-- Clean words are none of them uncorrectable. -/
theorem badWords_clean {ws : List (Nat × WordRead)} (h : ∀ w ∈ ws, ∃ d, w.2 = .clean d) :
    badWords ws = 0 := by
  rw [badWords, List.countP_eq_zero]
  intro w hw
  obtain ⟨d, hd⟩ := h w hw
  simp [hd]

/-- R84: the estimator's read of a MAPPED entry whose page is clean. -/
theorem State.readHead_clean {s : State} {a : SegAddr} {rest : List SegAddr} {e : Segment}
    (hr : s.work.reads = a :: rest) (he : s.seg? a = some e) (hm : e.isMapped = true)
    (hc : cleanWords s.mem e.page allWords) : s.readHead =
      (((s.modWork fun k => { k with reads := rest }).modBeam a.beam fun k => k).modWork fun k =>
        { k with bases := k.bases ++
            [⟨a, unpackWords ((s.readWords e.page allWords).map fun w => w.2.value), 0⟩] }).charge
        fun c => { c with segmentReads := c.segmentReads + 1 } := by
  have hw : State.readWords (s.modWork fun k => { k with reads := rest }) e.page allWords
      = s.readWords e.page allWords := rfl
  have hs : State.seg? (s.modWork fun k => { k with reads := rest }) a = some e := he
  have hcl := State.readWords_clean hc
  simp only [State.readHead, hr, hs, hm, if_true, hw, State.noteWords_clean hcl, badWords_clean hcl,
    Counter.add_zero]

end Sys2Proof.Machine
end

