-- ==== Sys2Proof/Laws/Wire.lean ====
section
/-! SUPPORT. Bytes of records and frames (02 R17, R19, R33): lengths, and what is read back from what is
written. -/

namespace Sys2Proof.Machine

/-- A number takes as many bytes as asked for. -/
@[simp] theorem leBytes_length (n x : Nat) : (leBytes n x).length = n := by
  induction n generalizing x with
  | zero => rfl
  | succ n ih => simp [leBytes, ih]

/-- R33: a number that fits is read back. -/
theorem fromLe_leBytes (n x : Nat) (h : x < 256 ^ n) : fromLe (leBytes n x) = x := by
  induction n generalizing x with
  | zero => simp_all [fromLe, leBytes]
  | succ n ih =>
    have hx : x / 256 < 256 ^ n := by
      rw [Nat.div_lt_iff_lt_mul (by decide)]
      simpa [Nat.pow_succ] using h
    simp only [leBytes, fromLe, ih _ hx, BitVec.toNat_ofNat]
    omega

/-- R19: a check word is sent in two bytes. -/
@[simp] theorem checkBytes_length (bytes : List Byte) : (checkBytes bytes).length = 2 := rfl

/-- R17: the sync pair and the check word add four bytes. -/
@[simp] theorem linkFrame_length (covered : List Byte) :
    (linkFrame covered).length = covered.length + 4 := by
  simp [linkFrame]

/-- A sample is two bytes. -/
@[simp] theorem samplesToBytes_length (xs : List Sample) : (samplesToBytes xs).length = 2 * xs.length := by
  induction xs with
  | nil => rfl
  | cons x xs ih =>
    simp only [samplesToBytes, List.flatMap_cons, List.length_append, leBytes_length] at ih ⊢
    rw [ih, List.length_cons]
    omega

/-- R17, R2: samples are read back as they are sent. -/
@[simp] theorem samplesOfBytes_samplesToBytes (xs : List Sample) :
    samplesOfBytes (samplesToBytes xs) = xs := by
  induction xs with
  | nil => rfl
  | cons x xs ih =>
    have hx : (BitVec.ofNat 8 (x.toNat / 256) ++ BitVec.ofNat 8 x.toNat : BitVec 16) = x := by
      apply BitVec.eq_of_toNat_eq
      have := x.isLt
      simp only [BitVec.toNat_append, BitVec.toNat_ofNat, Nat.shiftLeft_eq]
      rw [← Nat.shiftLeft_eq, ← Nat.shiftLeft_add_eq_or_of_lt (by omega), Nat.shiftLeft_eq]
      omega
    simp only [samplesToBytes, List.flatMap_cons, leBytes, List.cons_append, List.nil_append,
      samplesOfBytes] at ih ⊢
    rw [ih, hx]

end Sys2Proof.Machine
end

