-- ==== Sys2Proof/Tests/Slice0.lean ====
section
/-! SUPPORT. The tests of the model: what WellFormed refuses, worked cases of the spec's rules on small
states, and for each statement with hypotheses a concrete state and operands that meet them. Expected
values are worked by hand from the rules cited. -/

namespace Sys2Proof.Machine

set_option Elab.async false

/-! ## Helpers -/

/-- The state a command leaves. -/
def after (c : Instr) (s : State) : State :=
  match exec c s with
  | .next t => t
  | .fault _ => s
  | .refused _ => s

/-- Reset, with link 0 LOCKED and a channel buffer 64 samples full. -/
def ready : State := State.reset.modLink 0 fun k =>
  { k with mode := .locked, channels := 1, slips := [List.replicate 64 0], fill := 64 }

/-- What `Ready` asks, as one test. -/
def readyTest (s : State) (l : Link) : Bool :=
  s.links[l].mode == .locked && decide (s.links[l].places.length < 4)
    && s.links[l].places.all Place.isAnswer

/-- A link that passes the test is ready. -/
theorem ready_of {s : State} {l : Link} (h : readyTest s l = true) : s.Ready l := by
  simp only [readyTest, Bool.and_eq_true, beq_iff_eq, decide_eq_true_eq, List.all_eq_true] at h
  exact ⟨h.1.1, h.1.2, h.2⟩

/-- The status code of the response that link 0's newest place holds. -/
def statusOf (s : State) : Option Byte :=
  match s.links[(0 : Link)].places.getLast? with
  | some ⟨_, .answer record _⟩ => record[1]?
  | _ => none

/-- An entry of zone 0 of beam 0, MAPPED or CLEARING, with its page. -/
def entry (pos : Pos) (st : SegState) (page : Page) : Segment := ⟨⟨0, 0, pos⟩, st, page, none, false, false⟩

/-- One MAPPED segment of beam 0, enabled, the window of zone 0 open to 4 positions. -/
def mapped : State := (ready.setSegs [entry 0 .mapped 0]).modBeam 0 fun k =>
  { k with enable := true, windows := k.windows.set 0 4 }

/-- The same with anchoring on and a VALID anchor. -/
def anchored : State :=
  (mapped.setSegs [{ entry 0 .mapped 0 with anchor := some 1 }]).modBeam 0 fun k =>
    { k with anchoring := true, anchor := { k.anchor with valid := true } }

/-- The state with a block account open. -/
def opened (s : State) : State := s.modPort fun k => { k with account := some {} }

/-- The timer in RUN, watch mark and last boundary at 0. -/
def running : State := ready.modTimer fun k => { k with mode := .run 0, status := .good }

/-! ## WellFormed: each check refuses an ill-formed term -/

/-- R17: 261 beam bytes and a count do not fit in a record. -/
theorem test_wf_setReceive : (Instr.setReceive 0 0 5 (List.replicate 261 0)).wellFormed = false := by
  decide +kernel
/-- R17: 65 values do not fit in a record. -/
theorem test_wf_writeCoefficients :
    (Instr.writeCoefficients 0 0 0 0 0 0 65 (List.replicate 65 0)).wellFormed = false := by decide +kernel
/-- R29: number 32 is QUERY TIMER, not unknown. -/
theorem test_wf_unknown_number : (Instr.unknownCommand 0 0 32 []).wellFormed = false := by decide
/-- R17: no record has 262 parameter bytes. -/
theorem test_wf_unknown_length :
    (Instr.unknownCommand 0 0 33 (List.replicate 262 0)).wellFormed = false := by decide +kernel
/-- R27: a frame of link 1 does not lapse link 0. -/
theorem test_wf_linkLapse : (Instr.linkLapse 0 (.inboundFrame 1 [])).wellFormed = false := by decide
/-- R99: no evaluation within a HOLDOVER block's boundary. -/
theorem test_wf_talkStateChange : (Instr.talkStateChange 0 .watchExpiry).wellFormed = false := by decide
/-- R99: the same for a declaration. -/
theorem test_wf_divergenceDeclared : (Instr.divergenceDeclared 0 .freeRunning).wellFormed = false := by
  decide
/-- R99: the same for a trigger. -/
theorem test_wf_captureTrigger :
    (Instr.captureTrigger 0 (.inboundFrame 0 [])).wellFormed = false := by decide
/-- R125: no demand list is formed by a link's frame. -/
theorem test_wf_holdLimitAbandon :
    (Instr.holdLimitAbandon 0 (.inboundFrame 0 [])).wellFormed = false := by decide
/-- Every other row takes any operands. -/
theorem test_wf_others : (Instr.setMix 0 0 255 255 0).wellFormed = true := by decide

/-! ## No row of the table gives bits -/

/-- The table spells no command. -/
theorem test_decode_none : decodeTableWord 8 0 = none := rfl
/-- A word that spells no command leaves the state. -/
theorem test_fetch_none : State.reset.withFetchWord 16 7 = State.reset := rfl

/-! ## Arithmetic (00_scope) and check words (R19, R165) -/

/-- Ties go away from zero: 5/2 is 3, -5/2 is -3, -4/3 is -1. -/
theorem test_roundDiv :
    roundDiv 5 2 = 3 ∧ roundDiv (-5) 2 = -3 ∧ roundDiv (-4) 3 = -1 ∧ roundDiv 4 3 = 1 := by decide
/-- Saturation at both ends. -/
theorem test_sat16 : sat16 40000 = 32767#16 ∧ sat16 (-40000) = 0x8000#16 ∧ sat16 (-1) = 0xFFFF#16 := by
  decide
/-- The check word of the nine digits "123456789" is 0x29B1. -/
theorem test_checkWord :
    checkBytes [0x31, 0x32, 0x33, 0x34, 0x35, 0x36, 0x37, 0x38, 0x39] = [0x29#8, 0xB1#8] := by
  decide +kernel
/-- A record's two-byte value is low byte first (R33). -/
theorem test_leBytes : leBytes 2 0x0102 = [0x02#8, 0x01#8] ∧ fromLe [0x02#8, 0x01#8] = 0x0102 := by decide
/-- Data bit 0 stands at code position 3: c0, c1 and the parity are 1 (R165). -/
theorem test_checkByte_bit0 : checkByte 1#64 = 0x83#8 := by decide +kernel
/-- Data bit 63 stands at code position 71 = 64 + 4 + 2 + 1 (R165): four check bits and the parity. -/
theorem test_checkByte_bit63 : checkByte (BitVec.twoPow 64 63) = 0xC7#8 := by decide +kernel
/-- A flipped data bit is put back, two flipped bits are not (R166). -/
theorem test_classify :
    classify 1#64 (checkByte 0) = .corrected 0 ∧ classify 3#64 (checkByte 0) = .uncorrectable := by
  decide +kernel
/-- R57: the energy of a window of one segment is E_256. -/
theorem test_windowEnergy :
    windowEnergy #v[7, 6, 5, 4, 3, 2, 1] 1 = 7 ∧ windowEnergy #v[7, 6, 5, 4, 3, 2, 1] 64 = 1
      ∧ windowEnergy #v[7, 6, 5, 4, 3, 2, 1] 0 = 0 := by decide
/-- R56: 1600 loses a sixteenth and gains a sixteenth of 320. -/
theorem test_smooth : smooth 1600 320 = 1520 := by decide
/-- R188: the gain moves by at most the ramp step and stops at the target. -/
theorem test_rampGain : rampGain 2048 32768 0 = 2048 ∧ rampGain 2048 4096 5000 = 4096
    ∧ rampGain 2048 0 1000 = 0 := by decide
/-- R139: step 64, gradient 5000000, normaliser 1016777216: 41251. -/
theorem test_stepOf : stepOf 64 5000000 1016777216 = 41251 := by decide +kernel
/-- R140: the sum saturates. -/
theorem test_newCoef : newCoef 0x7FFFFFFF#32 1 = 0x7FFFFFFF#32 := by decide +kernel
/-- R190: a sample of 30000 at gain 16384 is 15000, and a limit of 100 clamps it. -/
theorem test_outputSample : outputSample 16384 32767 30000#16 = 15000#16
    ∧ outputSample 16384 100 30000#16 = 100#16 ∧ outputClamps 16384 100 30000#16 = true := by
  decide +kernel
/-- R121: after bottom 3 the order begins at 4 and ends at 3. -/
theorem test_priorityOrder : (priorityOrder 3).head? = some 4 ∧ (priorityOrder 3).getLast? = some 3 := by
  decide
/-- R101 to R104: DOUBLE takes the entry count, and NEAR ONLY to FAR ONLY the hangover count. -/
theorem test_transitionCount : transitionCount {} .quiet .double = 1
    ∧ transitionCount {} .nearOnly .farOnly = 8 ∧ transitionCount {} .quiet .farOnly = 2 := by decide
/-- R103: below the count the state stays and the run grows. -/
theorem test_talkStep : (talkStep {} .farOnly {}).state = .quiet ∧ (talkStep {} .farOnly {}).run = 1
    ∧ (talkStep {} .double {}).state = .double := by decide
/-- R26: by the fill, the block taken drops, keeps, repeats or pads. -/
theorem test_takenBlock : (takenBlock 81 (List.replicate 81 1#16)).length = 32
    ∧ takenCount 81 = 33 ∧ takenCount 80 = 32 ∧ takenCount 48 = 32 ∧ takenCount 47 = 31
    ∧ takenCount 32 = 31 ∧ takenCount 31 = 31
    ∧ takenBlock 2 [5#16, 6#16] = [5#16, 6#16] ++ List.replicate 30 0 := by decide
/-- R148: a RESTORE goes before the CAPTURE and after the CLEAR that are listed. -/
theorem test_enqueue :
    enqueue (.restore 1 .divergence 0 false) [.clear 0 .trigger 0, .capture 2 .trigger 0 false]
      = [.clear 0 .trigger 0, .restore 1 .divergence 0 false, .capture 2 .trigger 0 false] := by decide

/-! ## Commands, each on a small state -/

/-- R34, R31: a value past the bound is CLAMPED to it. -/
theorem test_setBeamRegularisation :
    (after (.setBeamRegularisation 0 9 1 0) ready).beams[(1 : Beam)].set.delta = 65536
      ∧ statusOf (after (.setBeamRegularisation 0 9 1 0) ready) = some 1 := by decide +kernel
/-- R102: the value in range is DONE. -/
theorem test_setBeamFarThreshold :
    (after (.setBeamFarThreshold 0 9 1 5) ready).beams[(1 : Beam)].set.farThreshold = 5
      ∧ statusOf (after (.setBeamFarThreshold 0 9 1 5) ready) = some 0 := by decide +kernel
/-- R102. -/
theorem test_setBeamCoupling :
    (after (.setBeamCoupling 0 9 15 (-1)) ready).beams[(15 : Beam)].set.coupling = 1 := by decide +kernel
/-- R102. -/
theorem test_setBeamNearFloor :
    (after (.setBeamNearFloor 0 9 0 7) ready).beams[(0 : Beam)].set.nearFloor = 7 := by decide +kernel
/-- R104: the three counts stop at 63. -/
theorem test_setBeamCounts :
    (after (.setBeamEntryCount 0 9 0 64) ready).beams[(0 : Beam)].set.entryCount = 63
      ∧ (after (.setBeamNormalCount 0 9 0 64) ready).beams[(0 : Beam)].set.normalCount = 63
      ∧ (after (.setBeamHangoverCount 0 9 0 64) ready).beams[(0 : Beam)].set.hangoverCount = 63 := by
  decide +kernel
/-- R108. -/
theorem test_setBeamDivergence :
    (after (.setBeamDivergenceMargin 0 9 0 256) ready).beams[(0 : Beam)].set.margin = 255
      ∧ (after (.setBeamDivergenceCount 0 9 0 0) ready).beams[(0 : Beam)].set.divergenceCount = 1 := by
  decide +kernel
/-- R112, R111. -/
theorem test_setBeamRatios :
    (after (.setBeamTargetRatio 0 9 0 3) ready).beams[(0 : Beam)].set.targetRatio = 3
      ∧ (after (.setBeamCaptureRatio 0 9 0 4) ready).beams[(0 : Beam)].set.captureRatio = 4
      ∧ (after (.setBeamCaptureCount 0 9 0 70000) ready).beams[(0 : Beam)].set.captureCount = 65535
      ∧ (after (.setBeamCaptureInterval 0 9 0 0) ready).beams[(0 : Beam)].set.captureInterval = 0 := by
  decide +kernel
/-- R117: trigger 1 is LATCHED and 2 is BAD ARGUMENT. -/
theorem test_setBeamTrigger :
    (after (.setBeamTrigger 0 9 0 1) ready).beams[(0 : Beam)].set.trigger = .latched
      ∧ statusOf (after (.setBeamTrigger 0 9 0 2) ready) = some 2 := by decide +kernel
/-- R192. -/
theorem test_setBeamGains :
    (after (.setBeamSuppressionGain 0 9 0 1) ready).beams[(0 : Beam)].set.suppression = 1
      ∧ (after (.setBeamDoubleTalkGain 0 9 0 2) ready).beams[(0 : Beam)].set.doubleTalk = 2
      ∧ (after (.setBeamRestoreGain 0 9 0 3) ready).beams[(0 : Beam)].set.restore = 3
      ∧ (after (.setBeamRampStep 0 9 0 0) ready).beams[(0 : Beam)].set.ramp = 1
      ∧ (after (.setBeamBeamLimit 0 9 0 40000) ready).beams[(0 : Beam)].set.limit = 32767 := by
  decide +kernel
/-- R70: enabling; a beam above 15 is BAD ARGUMENT. -/
theorem test_setBeamEnable :
    (after (.setBeamEnable 0 9 3 1) ready).beams[(3 : Beam)].enable = true
      ∧ statusOf (after (.setBeamEnable 0 9 16 1) ready) = some 2 := by decide +kernel
/-- R141: step 255 is the most. -/
theorem test_setBeamStep : (after (.setBeamStep 0 9 0 300) ready).beams[(0 : Beam)].set.mu = 255 := by
  decide +kernel
/-- R35: each device setting. -/
theorem test_setDevice :
    (after (.setDeviceClientShare 0 9 0 9) ready).port.share = 4
      ∧ (after (.setDeviceHoldLimit 0 9 0 0) ready).sched.holdLimit = 1
      ∧ (after (.setDeviceLinkLockCount 0 9 0 9) ready).linkLock = 8
      ∧ (after (.setDeviceCaptureLockCount 0 9 0 5) ready).timer.lockCount = 5
      ∧ (after (.setDeviceZoneLimit 0 9 5 100) ready).zones[(5 : Zone)].limit = 100
      ∧ (after (.setDeviceZoneMute 0 9 5 1) ready).zones[(5 : Zone)].mute = true := by decide +kernel
/-- R46: link 1's channel 2 is column 6. -/
theorem test_setMix :
    (after (.setMix 1 9 3 2 77) (ready.modLink 1 fun k => { k with mode := .locked })).zones[(3 : Zone)].gains[6]
      = 77#16 := by decide +kernel
/-- R40: the list replaces the one before, and a beam twice is BAD ARGUMENT. -/
theorem test_setReceive :
    (after (.setReceive 0 9 2 [3, 1]) ready).links[(0 : Link)].receive = [3, 1]
      ∧ statusOf (after (.setReceive 0 9 2 [3, 3]) ready) = some 2
      ∧ statusOf (after (.setReceive 0 9 3 [3, 1]) ready) = some 4 := by decide +kernel
/-- R42, R43, R38, R39. -/
theorem test_link_commands :
    (after (.freeze 0 9 5) ready).links[(0 : Link)].freeze = 5#16
      ∧ (after (.thaw 0 9 4) (after (.freeze 0 9 5) ready)).links[(0 : Link)].freeze = 1#16
      ∧ (after (.setAccessMode 0 9 1) ready).links[(0 : Link)].access = .priority
      ∧ (after (.setNoticeMask 0 9 3) ready).links[(0 : Link)].mask = 3#8
      ∧ (after (.clearNotices 0 9 1) (ready.raise 0 .beamDiverged)).links[(0 : Link)].notices = 0#8 := by
  decide +kernel
/-- R122, R118. -/
theorem test_scheduler_commands :
    (after (.setRotation 0 9 1) ready).sched.rotation = .fixed
      ∧ (after (.setBottom 0 9 4) ready).sched.bottom = 4
      ∧ (after (.retrainBeam 0 9 4) ready).beams[(4 : Beam)].latch = true := by decide +kernel
/-- R36: the latch is cleared and the setting stays. -/
theorem test_resetProcessing :
    (after (.resetProcessing 0 9) (mapped.setLatch 0 true)).beams[(0 : Beam)].latch = false
      ∧ (after (.resetProcessing 0 9) mapped).beams[(0 : Beam)].enable = true := by decide +kernel
/-- R72: the lowest free page, CLEARING, and a ZERO job. -/
theorem test_mapSegments :
    (after (.mapSegments 0 9 0 0 1 1) mapped).segs = [entry 0 .mapped 0, entry 1 .clearing 1]
      ∧ (after (.mapSegments 0 9 0 0 1 1) mapped).jobs = [.zero 0 0 [1] 0 0] := by decide +kernel
/-- R71: past the window is BAD ARGUMENT, on an entry present BEAM BUSY. -/
theorem test_mapSegments_refused :
    statusOf (after (.mapSegments 0 9 0 0 1 4) mapped) = some 2
      ∧ statusOf (after (.mapSegments 0 9 0 0 0 1) mapped) = some 5 := by decide +kernel
/-- R74: the entry goes, and the page is free again. -/
theorem test_unmapSegments :
    (after (.unmapSegments 0 9 0 0 0 4) mapped).segs = []
      ∧ (after (.unmapSegments 0 9 0 0 0 4) mapped).freeCount = 8192 := by decide +kernel
/-- R61: a window in use is WINDOW CONFLICT. -/
theorem test_setWindow :
    (after (.setWindow 0 9 1 2 64) ready).beams[(1 : Beam)].windows[2] = 64
      ∧ statusOf (after (.setWindow 0 9 0 0 0) mapped) = some 11 := by decide +kernel
/-- R76. -/
theorem test_pin :
    (after (.pinSegments 0 9 0 0 0 1) mapped).segs = [{ entry 0 .mapped 0 with pinned := true }]
      ∧ (after (.unpinSegments 0 9 0 0 0 1) (after (.pinSegments 0 9 0 0 0 1) mapped)).segs
        = [entry 0 .mapped 0] := by decide +kernel
/-- R77: the anchor page is the next lowest free page. -/
theorem test_setAnchoring :
    (after (.setAnchoring 0 9 0 1) mapped).segs = [{ entry 0 .mapped 0 with anchor := some 1 }]
      ∧ (after (.setAnchoring 0 9 0 0) anchored).segs = [entry 0 .mapped 0] := by decide +kernel
/-- R155, R157, R158, R160: what each lists. -/
theorem test_job_commands :
    (after (.checkpointBeam 0 9 0) anchored).jobs = [.capture 0 (.command 0) 0 false]
      ∧ (after (.restoreBeam 0 9 0) anchored).jobs = [.restore 0 (.command 0) 0 false]
      ∧ (after (.clearBeam 0 9 0) mapped).jobs = [.clear 0 (.command 0) 0]
      ∧ (after (.fillSegments 0 9 0 0 0 2 7) mapped).jobs = [.fill 0 0 0 1 7 0 0] := by decide +kernel
/-- R155, R157: no anchor to take or to restore from. -/
theorem test_job_commands_refused :
    statusOf (after (.checkpointBeam 0 9 0) mapped) = some 10
      ∧ statusOf (after (.restoreBeam 0 9 0) mapped) = some 10 := by decide +kernel
/-- R182, R183: the request waits; an ABSENT entry is NOT MAPPED. -/
theorem test_store_commands :
    (after (.readCoefficients 0 9 0 0 0 255 1) mapped).links[(0 : Link)].request
        = some ⟨.read, ⟨0, 0, 0⟩, 255, 1⟩
      ∧ statusOf (after (.readCoefficients 0 9 0 0 1 0 1) mapped) = some 9
      ∧ (after (.writeCoefficients 0 9 0 0 0 3 1 [5]) mapped).links[(0 : Link)].request
        = some ⟨.write [5], ⟨0, 0, 0⟩, 3, 1⟩ := by decide +kernel
/-- R29: number 33 is UNKNOWN COMMAND, and CLEAR NOTICES with no parameter MALFORMED. -/
theorem test_unknownCommand :
    statusOf (after (.unknownCommand 0 9 33 []) ready) = some 3
      ∧ statusOf (after (.unknownCommand 0 9 9 []) ready) = some 4 := by decide +kernel
/-- R29: in SEARCH no command is taken. -/
theorem test_search_takes_none : (after (.setBottom 1 9 4) ready).sched.bottom = 15 := by decide +kernel
/-- R15, R44, R180, R80, R134: the clear option clears the counter. -/
theorem test_queries_clear :
    (after (.queryTimer 0 9 1) (ready.modTimer fun k => { k with relocks := 3 })).timer.relocks = 0#16
      ∧ (after (.queryLink 0 9 1) (ready.modLink 0 fun k => { k with lapses := 3 })).links[(0 : Link)].lapses
        = 0#16
      ∧ (after (.queryMemory 0 9 1) (ready.modPort fun k => { k with notKept := 3 })).port.notKept = 0#16
      ∧ (after (.queryPool 0 9 1) (ready.modPool fun k => { k with overLimit := 3 })).pool.overLimit = 0#16
      ∧ (after (.queryScheduler 0 9 1) (ready.modSched fun k => { k with abandons := 3 })).sched.abandons
        = 0#16 := by decide +kernel
/-- R194, R79: the record's first byte is the beam; a beam above 15 is BAD ARGUMENT. -/
theorem test_queryBeam :
    statusOf (after (.queryBeam 0 9 15 0) ready) = some 0
      ∧ statusOf (after (.queryPath 0 9 16 0 0) ready) = some 2 := by decide +kernel

/-! ## The timer, the links and the port, each on a small state -/

/-- A capture frame whose samples are all 0. -/
def silentFrame : List Byte :=
  0x5E#8 :: 0xC1#8 :: (List.replicate 1024 0 ++ checkBytes (List.replicate 1024 0))

/-- R2: it is valid. -/
theorem test_silentFrame_valid : (parseCapture silentFrame).isSome = true := by
  have hl : (List.replicate 1024 (0 : Byte)).length = 1024 := List.length_replicate
  unfold silentFrame
  revert hl
  generalize List.replicate 1024 (0 : Byte) = body
  intro hl
  have h1 : (body ++ checkBytes body).length = 1026 := by rw [List.length_append, hl]; rfl
  have h2 : ((body ++ checkBytes body).drop 1024).take 2 = checkBytes body := by
    rw [List.drop_left' hl]; rfl
  simp [parseCapture, h1, List.take_left' hl, h2]

/-- R2: a frame of two bytes is bad. -/
theorem test_shortFrame : parseCapture [0x5E, 0xC1] = none := by decide
/-- R5: the second bad frame in a row, past the guard, begins a BAD FRAME block. -/
theorem test_captureFrame_bad :
    (after (.captureFrame [] 600000) (running.modTimer fun k => { k with badRun := 1 })).timer.badRun = 2
      ∧ (after (.captureFrame [] 600000) running).timer.status = .badFrame := by
  simp only [after, exec, execCaptureFrame]
  rw [State.frameArrives_timer (by decide +kernel), State.frameArrives_timer (by decide +kernel)]
  decide +kernel
/-- R5: the fourth enters HOLDOVER. -/
theorem test_badRunHoldover :
    (after (.badRunHoldover [] 600000) (running.modTimer fun k => { k with badRun := 3 })).timer.mode
      = .holdover := by
  have h : (running.modTimer fun k => { k with badRun := 3 }).holdoverIn [] 600000 = true := by
    decide +kernel
  simp only [after, exec, execBadRunHoldover, State.eventStep, h, if_true, State.carry]
  rw [State.frameArrives_timer (by decide +kernel)]
  decide +kernel
/-- R6: within the guard the frame is early and no boundary follows. -/
theorem test_captureFrame_early :
    (after (.captureFrame [] 500000) running).timer.earlyFrames = 1#16
      ∧ (after (.captureFrame [] 500000) running).timer.block = 0#32 := by decide +kernel
/-- R10: the second good frame relocks, here within the guard, and the watch mark is its arrival. -/
theorem test_relock (bytes : List Byte) (hv : (parseCapture bytes).isSome = true) :
    (after (.relock bytes 400000) (State.reset.modTimer fun k => { k with goodRun := 1 })).timer.mode
      = .run 400000 := by
  have hd : ¬ (State.reset.modTimer fun k => { k with goodRun := 1 }).timer.dueTime < 400000 := by
    decide +kernel
  have h : (State.reset.modTimer fun k => { k with goodRun := 1 }).relocksIn bytes 400000 = true := by
    simp only [State.relocksIn, State.frameVerdict, hv, State.catchUp_of_not_due hd]
    decide +kernel
  simp only [after, exec, execRelock, State.eventStep, h, if_true, State.carry,
    State.frameArrives_timer hd, State.frameVerdict, hv]
  decide +kernel
/-- R7: the expiry comes 1.25 ms after the watch mark. -/
theorem test_watchExpiry :
    (after .watchExpiry running).timer.lastBoundary = 1250000
      ∧ (after .watchExpiry running).timer.mode = .holdover := by
  have h : running.watchExpiry = running.dueEvent := rfl
  simp only [after, exec, execWatchExpiry, h, State.dueEvent_timer]
  decide +kernel
/-- R8: one period later, the next block. -/
theorem test_freeRunningBoundary :
    (after .freeRunningBoundary State.reset).timer.block = 1#32
      ∧ (after .freeRunningBoundary State.reset).timer.lastBoundary = 1000000 := by
  have h : State.reset.freeRunning = State.reset.dueEvent := rfl
  simp only [after, exec, execFreeRunningBoundary, h, State.dueEvent_timer]
  decide +kernel
/-- R16: the speaker frame has 389 bytes and shows the low byte of the block number. -/
theorem test_speakerFrame :
    (speakerFrame 0x102 (List.replicate 6 (List.replicate 32 0))).length = 389
      ∧ (speakerFrame 0x102 []).take 3 = [0x5E#8, 0xD2#8, 0x02#8] := by decide +kernel
/-- R36: reset puts the capture lock count back to 2. -/
theorem test_powerOnReset :
    (after (.powerOnReset 77) (running.modTimer fun k => { k with lockCount := 8 })).timer.lockCount = 2
      ∧ (after (.powerOnReset 77) running).timer.lastBoundary = 77 := by decide +kernel

/-- A frame of no channel with a count and a piece. -/
def bareFrame (count : Byte) (piece : List Byte) : List Byte :=
  linkFrame ([count, 0, messageByte piece.length false, 0] ++ piece)

/-- R17, R19: the frame written out byte by byte; its check word is 0x84C0. -/
theorem test_parseInbound :
    parseInbound [0xA7, 0x3C, 0, 0, 0, 0, 0x84, 0xC0] = some ⟨0, 0, [], false, []⟩ := by decide +kernel
/-- R18: channel count 5 and piece length 61 are bad. -/
theorem test_parseInbound_header :
    parseInbound (linkFrame [0, 5, 0, 0]) = none
      ∧ parseInbound (linkFrame ([0, 0, 61, 0] ++ List.replicate 61 0)) = none := by decide +kernel
/-- R21: the third valid frame in sequence locks the link. -/
theorem test_linkLock :
    (after (.linkLock 1 (bareFrame 9 [])) (State.reset.modLink 1 fun k =>
      { k with lockRun := 2, runCount := 8, runChannels := 0 })).links[(1 : Link)].mode = .locked := by
  decide +kernel
/-- R24: a bad frame's zeros go to the buffer. -/
theorem test_inboundFrame_bad : (after (.inboundFrame 0 []) ready).links[(0 : Link)].fill = 96
    ∧ (after (.inboundFrame 0 []) ready).links[(0 : Link)].badRun = 1 := by decide +kernel
/-- R24, R27: the fourth lapses the link. -/
theorem test_linkLapse :
    (after (.linkLapse 0 (.inboundFrame 0 [])) (ready.modLink 0 fun k =>
      { k with badRun := 3 })).links[(0 : Link)].mode = .search := by decide +kernel
/-- R20, R28: a whole record in one piece is executed. -/
theorem test_inboundFrame_record :
    (after (.inboundFrame 1 (bareFrame 0 [9, 11, 1, 0, 4])) (State.reset.modLink 1 fun k =>
      { k with mode := .locked })).sched.bottom = 4 := by decide +kernel
/-- R30: a record of 61 bytes leaves in two pieces. -/
theorem test_sendPiece :
    ((sendPiece [⟨1, .answer (List.replicate 61 0) 0⟩]).2 = [⟨1, .answer (List.replicate 61 0) 60⟩])
      ∧ (sendPiece [⟨1, .answer (List.replicate 61 0) 60⟩]) = (some ([0], true), []) := by
  decide +kernel

/-- The next read is that of beam 0's one segment. -/
def reading : State := (opened mapped).modWork fun k => { k with reads := [⟨0, 0, 0⟩] }

/-- R84: a read whose entry is no longer MAPPED is dropped without a transfer. -/
theorem test_segmentReadGrant_dropped :
    (after .segmentReadGrant ((reading.setSegs [entry 0 .clearing 0]).modWork fun k =>
      { k with reads := [⟨0, 0, 0⟩, ⟨0, 0, 1⟩] })).port.account = some {} := by decide +kernel
/-- 10, the page word: coefficient 2i is the low half. -/
theorem test_unpackWords : unpackWords [0x0000000900000007#64] = [7#32, 9#32] := by decide +kernel
/-- Beam 0 in service in lane 2 with one entry listed. -/
def adapting : State :=
  ((opened mapped).modWork fun k => { k with bases := [⟨⟨0, 0, 0⟩, List.replicate 256 7, 0⟩] }).modSched
    fun k =>
      { k with
        lanes := k.lanes.set 2 (some ⟨0, 0, false, 0, 0, 1⟩)
        demand := [⟨2, ⟨0, 0, 0⟩⟩] }
/-- R127, R129: the last segment of the pass: it completes, and its beam becomes the bottom beam. -/
theorem test_adaptationWriteGrant :
    (after .adaptationWriteGrant adapting).beams[(0 : Beam)].passes = 1#16
      ∧ (after .adaptationWriteGrant adapting).sched.bottom = 0 := by decide +kernel
/-- R138 to R140: one error sample 4 against one reference sample 8: gradient 32, step 32·32·2^17 over
2^20, added to the base. -/
theorem test_newCoefs :
    (newCoefs 32 (2 ^ 20) (4 :: List.replicate 31 0) (List.replicate 31 0 ++ [8#16]) 0 [5#32])[0]?
      = some 133#32 := by decide +kernel
/-- R159, R151: the one page of a FILL is written and the job completes. -/
theorem test_copyUnitGrant_fill :
    (after .copyUnitGrant ((opened mapped).setJobs [.fill 0 0 0 3 9 0 0])).jobs = []
      ∧ constantPage 9 = List.replicate 128 0x0000000900000009#64 := by decide +kernel
/-- R153: a CAPTURE that completes with its fault mark clear makes the anchor VALID and counts it. -/
theorem test_completeJob_capture :
    (ready.completeJob (.capture 3 .trigger 0 false)).beams[(3 : Beam)].anchor = ⟨true, 0, 1, 0⟩
      ∧ (ready.completeJob (.capture 3 .trigger 0 true)).beams[(3 : Beam)].anchor.valid = false := by
  decide +kernel
/-- R182: the value asked for is the result, low byte first. -/
theorem test_storeReadGrant :
    (after .storeReadGrant (after (.readCoefficients 0 9 0 0 0 3 1) ((opened mapped).setMem
      (writeWord [] 0 1 0x0403020100000000#64)))).links[(0 : Link)].places
      = [⟨9, .answer [9, 0, 4, 0, 1, 2, 3, 4] 0⟩] := by decide +kernel
/-- R176: the other half of the word stays. -/
theorem test_storeWriteGrant :
    readWord (after .storeWriteGrant (after (.writeCoefficients 0 9 0 0 0 3 1 [5]) ((opened mapped).setMem
      (writeWord [] 0 1 0x00000000000000FF#64)))).mem 0 1 = .clean 0x00000005000000FF#64 := by
  decide +kernel
/-- R177: the oldest entry is written. -/
theorem test_repairWrite :
    readWord (after .repairWrite ((opened mapped).modPort fun k =>
      { k with repairs := [⟨3, 2, 6⟩] })).mem 3 2 = .clean 6 := by decide +kernel
/-- R178: from position 5 on no written page is left, so the search wraps to page 0 and a round is
counted; after page 8191 comes 0. -/
theorem test_scrubRead :
    (((opened mapped).modPool fun k => { k with written := 1 }).modPort fun k =>
        { k with scrubPos := 5 }).scrubPage = some 0
      ∧ (Port.scrubPast 0 { scrubPos := 5 }).scrubPos = 1
      ∧ (Port.scrubPast 0 { scrubPos := 5 }).scrubRounds = 1#16
      ∧ (Port.scrubPast 8191 { scrubPos := 5 }).scrubPos = 0 := by decide +kernel
/-- Log entry 8: on an empty queue the part idles; else the front command runs. -/
theorem test_step :
    (match step (State.reset.setPending [.watchExpiry, .freeRunningBoundary]) with
      | .next t => t.pending | _ => []) = [.freeRunningBoundary] := by decide +kernel

/-! ## Witnesses: for each statement with hypotheses, states and operands that meet them

Each theorem names the statement, and its parts are the hypotheses of the statement's clauses in their
order. -/

/-- Beam 3 about to be enabled beside 1024 - 384 + n active segments. -/
def crowded (n : Nat) : State :=
  let table (b : Beam) (k : Nat) : List Segment := (List.range k).map fun i =>
    ⟨⟨b, Fin.ofNat 6 (i / 64), Fin.ofNat 64 (i % 64)⟩, .mapped, Fin.ofNat 8192 (384 * b.val + i), none,
      false, false⟩
  (((ready.setSegs (table 0 384 ++ table 1 (256 + n) ++ table 3 384)).modBeam 0 fun k =>
    { k with enable := true }).modBeam 1 fun k => { k with enable := true })

/-- A CAPTURE of beam 0 is listed. -/
def capturing : State := anchored.setJobs [.capture 0 (.command 0) 0 false]

/-- Link 0 LOCKED with no channel. -/
def bare : State := State.reset.modLink 0 fun k => { k with mode := .locked }

/-- Beam 0 first in the order, requesting, with one eligible segment, in RUN. -/
def requesting : State :=
  ((running.setSegs [entry 0 .mapped 0]).modBeam 0 fun k =>
    { k with
      enable := true, windows := k.windows.set 0 4, latch := true
      talk := { k.talk with state := .farOnly } })

/-- The silent frame's samples. -/
theorem silentFrame_parse : ∃ v, parseCapture silentFrame = some v :=
  Option.isSome_iff_exists.mp test_silentFrame_valid

/-- The free-running boundary of any state whose timer is at reset's. -/
theorem freeRunning_makes {s : State} (h : s.timer = State.reset.timer) :
    MakesBoundary .freeRunningBoundary s .holdover 1000000 silence := by
  unfold MakesBoundary
  rw [h]
  exact ⟨rfl, rfl, rfl⟩

/-- A good frame past the guard makes a GOOD boundary of any state whose timer is `running`'s. -/
theorem goodFrame_makes {s : State} (h : s.timer = running.timer) :
    ∃ v, MakesBoundary (.captureFrame silentFrame 600000) s .good 600000 v := by
  obtain ⟨v, hv⟩ := silentFrame_parse
  refine ⟨v, ?_⟩
  unfold MakesBoundary
  rw [h]
  refine ⟨rfl, by decide, by decide +kernel, ?_⟩
  rw [hv]
  exact ⟨rfl, rfl⟩

/-- A state with no job and no lane in service, anchoring on wherever an anchor is VALID. -/
theorem jobsSound_of_idle {s : State} (hj : s.jobs = [])
    (hl : s.sched.lanes = Vector.replicate 4 none)
    (ha : ∀ b : Beam, s.beams[b].anchor.valid = true → s.beams[b].anchoring = true) : s.JobsSound := by
  constructor
  · simp [State.commandJobs, hj]
  · simp [hj]
  · simp [hj]
  · simp [hj]
  · simp [hj]
  · simp [hj]
  · simp [hj]
  · simp [hj]
  · intro b hb
    exact ⟨ha b hb, by simp [hj]⟩
  · intro m n p q hm
    simp [hl] at hm
  · intro n p hn
    simp [hl] at hn
/-- A state with one job, with work left, and no lane in service. -/
theorem jobsSound_of_one {s : State} {j : Job} (hj : s.jobs = [j]) (hw : s.hasWork j = true)
    (hz : ∀ b z ps n l, j = .zero b z ps n l → ps.Nodup ∧ n < ps.length)
    (hu : j.unzeroed.Nodup ∧ ∀ a ∈ j.unzeroed, ∃ e, s.seg? a = some e ∧ e.state = .clearing)
    (hl : s.sched.lanes = Vector.replicate 4 none)
    (ha : ∀ b : Beam, (j.isCaptureOf b = true → s.beams[b].anchoring = true) ∧
      (s.beams[b].anchor.valid = true → s.beams[b].anchoring = true ∧ j.isCaptureOf b = false)) :
    s.JobsSound := by
  constructor
  · simp only [State.commandJobs, hj]
    exact Nat.le_trans (List.countP_le_length (l := [j])) (by simp)
  · intro b
    rw [hj]
    exact List.countP_le_length
  · rw [hj]
    intro k hk
    by_cases h : j.isRestoreClass = true
    · simp [h] at hk
    · simp [h] at hk
      simp [hk, h]
  · intro k hk
    rw [hj] at hk
    cases hk
    exact hw
  · intro b z ps n l hm
    rw [hj, List.mem_singleton] at hm
    exact hz b z ps n l hm.symm
  · simpa [hj] using hu.1
  · intro a hm
    simp only [hj, List.flatMap_cons, List.flatMap_nil, List.append_nil] at hm
    exact hu.2 a hm
  · intro b hb
    simp only [hj, List.any_cons, List.any_nil, Bool.or_false] at hb
    exact (ha b).1 hb
  · intro b hb
    obtain ⟨h1, h2⟩ := (ha b).2 hb
    exact ⟨h1, by simp [hj, h2]⟩
  · intro m n p q hm
    simp [hl] at hm
  · intro n p hn
    simp [hl] at hn
/-- A link with one whole buffer of n samples and nothing in progress is sound. -/
theorem oneChannel_sound (n : Nat) (h : n ≤ 128) (ps : List Place)
    (hp : ps.length ≤ 4 ∧ ∀ p ∈ ps, p.isAnswer = true) :
    LinkState.Sound
      { mode := .locked, channels := 1, slips := [List.replicate n 0], fill := n, places := ps } := by
  have hc : ps.countP Place.isExecuting = 0 := by
    rw [List.countP_eq_zero]
    intro p hm
    have := hp.2 p hm
    cases hs : p.stage <;> simp_all [Place.isAnswer, Place.isExecuting]
  constructor <;> simp [h, hp.1, hc]
  exact hp.2

theorem test_witness_StepRunsTheFrontCommand :
    (State.reset.setPending [.scrubRead]).pending = [.scrubRead] ∧ State.reset.pending = [] := by
  decide +kernel
theorem test_witness_WhatRowsLeaveAlone :
    exec (.setBottom 1 9 4) State.reset = .next State.reset := rfl
theorem test_witness_BeamSettings : ready.Ready 0 ∧ (15 : Byte).toNat = (15 : Beam).val
    ∧ 0 < (255 : BitVec 64).toInt ∧ (0 : BitVec 64).toInt ≤ 0 ∧ (2 : BitVec 64) ≠ 0
    ∧ (2 : BitVec 64) ≠ 1 :=
  ⟨ready_of (by decide +kernel), by decide, by decide, by decide, by decide, by decide⟩
theorem test_witness_EnableSetting : ready.Ready 0 ∧ ready.beams[(0 : Beam)].enable = false
    ∧ mapped.Ready 0 ∧ mapped.beams[(0 : Beam)].enable = true ∧ mapped.jobs.any (Job.isCaptureOf 0) = false
    ∧ mapped.laneOf 0 = none ∧ adapting.Ready 0 ∧ adapting.laneOf 0 = some 2
    ∧ adapting.jobs.any (Job.isCaptureOf 0) = false ∧ adapting.beams[(0 : Beam)].enable = true :=
  ⟨ready_of (by decide +kernel), by decide +kernel, ready_of (by decide +kernel), by decide +kernel,
    by decide +kernel, by decide +kernel, ready_of (by decide +kernel), by decide +kernel,
    by decide +kernel, by decide +kernel⟩
theorem test_witness_EnableSetting_limit : (crowded 1).Ready 0
    ∧ 1024 < (crowded 1).activeCount + ((crowded 1).segsOf 3).length
    ∧ (crowded 1).beams[(3 : Beam)].enable = false ∧ (crowded 0).Ready 0
    ∧ (crowded 0).activeCount + ((crowded 0).segsOf 3).length = 1024
    ∧ (crowded 0).beams[(3 : Beam)].enable = false :=
  ⟨ready_of (by decide +kernel), by decide +kernel, by decide +kernel, ready_of (by decide +kernel),
    by decide +kernel, by decide +kernel⟩
theorem test_witness_DisablingAbortsCapture (s : State)
    (hs : s = capturing.modBeam 0 fun k => { k with anchor := { k.anchor with valid := false } }) :
    s.Ready 0 ∧ (0 : Byte).toNat = (0 : Beam).val ∧ s.beams[(0 : Beam)].enable = true
    ∧ s.jobs.any (Job.isCaptureOf 0) = true ∧ s.JobsSound
    ∧ (∀ z first last v n m, .fill 0 z first last v n m ∉ s.jobs) := by
  subst hs
  refine ⟨ready_of (by decide +kernel), by decide, by decide +kernel, by decide +kernel, ?_, ?_⟩
  · exact jobsSound_of_one (j := .capture 0 (.command 0) 0 false) rfl (by decide +kernel)
      (fun _ _ _ _ _ h => by cases h) ⟨by decide, fun a ha => by cases ha⟩ rfl (by decide +kernel)
  · intro z first last v n m h
    cases List.mem_singleton.mp h
theorem test_witness_DeviceSettings : ready.Ready 0 ∧ (1 : Byte) ≠ 0 ∧ (5 : Byte).toNat = (5 : Zone).val
    ∧ 5 < (6 : Byte).toNat :=
  ⟨ready_of (by decide +kernel), by decide, by decide, by decide⟩
theorem test_witness_SetMixStoresTheGain : ready.Ready 0 ∧ 5 < (6 : Byte).toNat ∧ 3 < (4 : Byte).toNat
    ∧ (5 : Byte).toNat = (5 : Zone).val ∧ (3 : Byte).toNat ≤ 3 :=
  ⟨ready_of (by decide +kernel), by decide, by decide, by decide, by decide⟩
theorem test_witness_SetReceiveReplacesTheList : ready.Ready 0 ∧ ([] : List Byte).length ≠ (1 : Byte).toNat
    ∧ (List.replicate 9 (0 : Byte)).length = (9 : Byte).toNat ∧ 8 < (9 : Byte).toNat
    ∧ (∃ x ∈ [(16 : Byte)], 15 < x.toNat) ∧ ¬ [(3 : Byte), 3].Nodup
    ∧ [(15 : Byte), 0].length = (2 : Byte).toNat ∧ [(15 : Byte), 0].Nodup
    ∧ [(15 : Byte), 0] = [(15 : Beam), 0].map (fun b => BitVec.ofNat 8 b.val) :=
  ⟨ready_of (by decide +kernel), by decide, by decide, by decide, by decide, by decide, by decide,
    by decide, by decide⟩
theorem test_witness_LinkAndSchedulerSettings : ready.Ready 0 ∧ 15 < (16 : Byte).toNat
    ∧ (15 : Byte).toNat = (15 : Beam).val := ⟨ready_of (by decide +kernel), by decide, by decide⟩
theorem test_witness_ResetProcessingClears : adapting.Ready 0 := ready_of (by decide +kernel)
theorem test_witness_CaptureFrameLayout : ∃ v, parseCapture silentFrame = some v := silentFrame_parse
theorem test_witness_FrameInRun : running.timer.mode = .run 0 ∧ 1250000 ≤ 0 + 1250000
    ∧ running.timer.lastBoundary + 500000 < 500001 ∧ (∃ v, parseCapture silentFrame = some v)
    ∧ parseCapture [] = none ∧ running.timer.badRun < 3 :=
  ⟨rfl, by decide, by decide +kernel, silentFrame_parse, rfl, by decide +kernel⟩
theorem test_witness_FrameDiscarded : running.timer.quietUntil 500000 ∧ running.timer.mode = .run 0
    ∧ 500000 ≤ running.timer.lastBoundary + 500000 ∧ running.timer.badRun < 3
    ∧ ready.timer.quietUntil 1000000 ∧ ready.timer.mode = .holdover
    ∧ (parseCapture silentFrame).isSome = true ∧ ready.timer.goodRun + 1 < ready.timer.lockCount
    ∧ parseCapture [] = none := by
  exact ⟨show 500000 ≤ 0 + 1250000 by decide, rfl, by decide +kernel, by decide +kernel,
    show 1000000 ≤ 0 + 1000000 by decide, rfl, test_silentFrame_valid, by decide +kernel, rfl⟩
theorem test_witness_BadRunEntersHoldover : running.timer.mode = .run 0
    ∧ (running.modTimer fun k => { k with badRun := 3 }).timer.mode = .run 0
    ∧ (running.modTimer fun k => { k with badRun := 3 }).timer.badRun = 3 ∧ 1250000 ≤ 0 + 1250000
    ∧ 500000 ≤ running.timer.lastBoundary + 500000 ∧ running.timer.lastBoundary + 500000 < 500001
    ∧ parseCapture [] = none ∧ running.timer.badRun < 3 ∧ (parseCapture silentFrame).isSome = true
    ∧ 0 + 1250000 < 1250001 ∧ ready.timer.mode = .holdover :=
  ⟨rfl, rfl, rfl, by decide, by decide +kernel, by decide +kernel, rfl, by decide +kernel,
    test_silentFrame_valid, by decide, rfl⟩
theorem test_witness_GoodRunRelocks : ready.timer.mode = .holdover
    ∧ 1000000 ≤ ready.timer.lastBoundary + 1000000 ∧ (∃ v, parseCapture silentFrame = some v)
    ∧ (ready.modTimer fun k => { k with goodRun := 1 }).timer.mode = .holdover
    ∧ (ready.modTimer fun k => { k with goodRun := 1 }).timer.lockCount ≤ 1 + 1
    ∧ 500000 ≤ ready.timer.lastBoundary + 500000 ∧ ready.timer.lastBoundary + 500000 < 500001
    ∧ parseCapture [] = none ∧ ready.timer.goodRun + 1 < ready.timer.lockCount :=
  ⟨rfl, by decide +kernel, silentFrame_parse, rfl, by decide +kernel, by decide +kernel,
    by decide +kernel, rfl, by decide +kernel⟩
theorem test_witness_OwnBoundaries : running.timer.mode = .run 0 ∧ ready.timer.mode = .holdover :=
  ⟨rfl, rfl⟩
theorem test_witness_BoundaryTurnsTheBlock :
    MakesBoundary .freeRunningBoundary ready .holdover 1000000 silence ∧ ready.work.reads = []
    ∧ ready.port.account = none
    ∧ MakesBoundary .freeRunningBoundary (opened ready) .holdover 1000000 silence
    ∧ (opened ready).work.reads = [] ∧ (opened ready).port.account = some {} :=
  ⟨freeRunning_makes rfl, rfl, rfl, freeRunning_makes rfl, rfl, rfl⟩
/-- The fills 81, 80, 48, 47, 32 and 31 are the clauses' bounds. -/
theorem test_witness_BoundaryTakesPlayback (n : Nat) (h : n ≤ 128) (s : State)
    (hs : s = ready.modLink 0 fun k => { k with slips := [List.replicate n 0], fill := n }) :
    MakesBoundary .freeRunningBoundary s .holdover 1000000 silence ∧ s.work.reads = []
    ∧ s.links[(0 : Link)].mode = .locked ∧ s.links[(0 : Link)].Sound
    ∧ s.links[(0 : Link)].slips[0]? = some (List.replicate n 0) ∧ s.links[(0 : Link)].fill = n
    ∧ s.links[(1 : Link)].mode = .search := by
  subst hs
  exact ⟨freeRunning_makes rfl, rfl, rfl, oneChannel_sound n h [] (by simp), rfl, rfl, rfl⟩
theorem test_witness_BoundaryMixesTheZones :
    MakesBoundary .freeRunningBoundary ready .holdover 1000000 silence ∧ ready.work.reads = []
    ∧ (∀ l : Link, ready.links[l].Sound) := by
  refine ⟨freeRunning_makes rfl, rfl, ?_⟩
  intro l
  match l with
  | 0 => exact oneChannel_sound 64 (by decide) [] (by simp)
  | 1 => constructor <;> decide +kernel
  | 2 => constructor <;> decide +kernel
/-- Link 0 has a response of 61 bytes behind a command that executes, and a fill of n: 32 is the least
at which the piece is sent, and at 31 the link underruns. Link 1 is in SEARCH. -/
theorem test_witness_BoundarySendsFrames (n : Nat) (s : State)
    (hs : s = ready.modLink 0 fun k =>
      { k with
        fill := n
        places := [⟨1, .executing .resetProcessing⟩, ⟨2, .answer (List.replicate 61 0) 0⟩] }) :
    MakesBoundary .freeRunningBoundary s .holdover 1000000 silence ∧ s.work.reads = []
    ∧ s.links[(0 : Link)].mode = .locked ∧ s.links[(0 : Link)].fill = n
    ∧ (∀ p ∈ [(⟨1, .executing .resetProcessing⟩ : Place)], p.isAnswer = false)
    ∧ s.links[(0 : Link)].places
      = [⟨1, .executing .resetProcessing⟩] ++ ⟨2, .answer (List.replicate 61 0) 0⟩ :: []
    ∧ s.links[(1 : Link)].mode = .search := by
  subst hs
  exact ⟨freeRunning_makes rfl, rfl, rfl, rfl, by decide, rfl, rfl⟩
/-- Beam 0 has a MAPPED segment on an open path, and is disabled or RESTORING; beam 1 has none. -/
theorem test_witness_BoundaryStartsTheEstimates :
    MakesBoundary .freeRunningBoundary mapped .holdover 1000000 silence ∧ mapped.work.reads = []
    ∧ (∃ v, MakesBoundary (.captureFrame silentFrame 600000) running .good 600000 v)
    ∧ running.work.reads = [] ∧ (∀ e ∈ mapped.segs, e.addr.beam ≠ 1)
    ∧ (mapped.modBeam 0 fun k => { k with enable := false }).beams[(0 : Beam)].enable = false
    ∧ (mapped.setJobs [.restore 0 .trigger 0 false]).modelState 0 = .restoring
    ∧ (running.modBeam 1 fun k => { k with enable := true }).beams[(1 : Beam)].enable = true
    ∧ running.JobsSound ∧ running.laneOf 1 = none ∧ mapped.JobsSound ∧ mapped.laneOf 1 = none
    ∧ mapped.beams[(0 : Beam)].WindowsPermitted := by
  refine ⟨freeRunning_makes rfl, rfl, goodFrame_makes rfl, rfl, by decide +kernel, by decide +kernel,
    by decide +kernel, by decide +kernel, jobsSound_of_idle rfl rfl (by decide +kernel), by decide +kernel,
    jobsSound_of_idle rfl rfl (by decide +kernel), by decide +kernel, ?_⟩
  unfold BeamState.WindowsPermitted
  decide +kernel
/-- A boundary of silence lists no job. -/
theorem test_witness_BoundaryStartsTheEstimates_jobs :
    (after .freeRunningBoundary ready).jobs = ready.jobs := by
  have h : ready.freeRunning = ready.dueEvent := rfl
  simp only [after, exec, execFreeRunningBoundary, h]
  decide +kernel
/-- Lane 0 is in service or free. Beam 0 may take a lane, with a ZERO job listed or with none; beam 1
requests, but is masked. In a block that is not GOOD none takes one. -/
theorem test_witness_BoundaryGrantsALane (p : Option Pass) (js : List Job)
    (hp : p = none ∨ p = some ⟨5, 0, false, 0, 0, 0⟩) (hj : js = [] ∨ js = [.zero 0 0 [1] 0 0])
    (s : State) (hs : s = ((((requesting.setSegs [entry 0 .mapped 0, entry 1 .clearing 1]).modBeam 1 fun k =>
      { k with latch := true }).modSched fun k => { k with lanes := k.lanes.set 0 p }).setJobs js)) :
    (∃ v, MakesBoundary (.captureFrame silentFrame 600000) s .good 600000 v) ∧ s.work.reads = []
    ∧ (List.finRange 4).filter (fun n => (s.sched.lanes[n]).isNone)
      = (if p.isNone then [0, 1, 2, 3] else [1, 2, 3])
    ∧ (((List.finRange 16).map fun i => s.sched.bottom + 1 + i).filter fun b =>
      CaptureStatus.good == .good && s.takesLane b) = [0]
    ∧ (s.hasJob 0 = js.any fun j => j.beam == 0)
    ∧ s.beams[(1 : Beam)].latch = true ∧ (1 : Beam) ∉ [(0 : Beam)] := by
  subst hs
  refine ⟨goodFrame_makes rfl, rfl, ?_⟩
  rcases hp with rfl | rfl <;> rcases hj with rfl | rfl <;> decide +kernel
theorem test_witness_BoundaryGrantsALane_notGood :
    MakesBoundary .watchExpiry requesting .holdover 1250000 silence ∧ requesting.work.reads = []
    ∧ (((List.finRange 16).map fun i => requesting.sched.bottom + 1 + i).filter fun b =>
      CaptureStatus.holdover == .good && requesting.takesLane b) = []
    ∧ requesting.beams[(0 : Beam)].latch = true := by
  refine ⟨⟨rfl, rfl, rfl⟩, rfl, ?_⟩
  decide +kernel
theorem test_witness_LinkFrameRoundTrip :
    (∀ xs ∈ List.replicate 4 (List.replicate 32 (0 : Sample)), xs.length = 32)
    ∧ (List.replicate 60 (0 : Byte)).length ≤ 60 ∧ ((0, 0) : Byte × Byte) ≠ (0xA7, 0x3C)
    ∧ [(0 : Byte), 0].length = 2 ∧ [(0 : Byte), 0] ≠ checkBytes [0, 0, 0, 0]
    ∧ 7 < (linkFrame [0, 0, 0, 0]).length ∧ 4 < (5 : Byte).toNat ∧ 60 < (61 : Byte).toNat % 64
    ∧ (0x40 : Byte).getLsbD 6 = true := by decide +kernel
theorem test_witness_SearchAndLock : State.reset.links[(0 : Link)].mode = .search
    ∧ State.reset.links[(0 : Link)].assembly = none ∧ parseInbound [] = none
    ∧ parseInbound (bareFrame 9 []) = some ⟨9, 0, [], false, []⟩ ∧ 1 < State.reset.linkLock
    ∧ ¬ (0 < State.reset.links[(0 : Link)].lockRun) := by decide +kernel
/-- The third frame of a run, at a lock count of 3. -/
theorem test_witness_SearchAndLock_third (k : LinkState)
    (hk : k = { lockRun := 2, runCount := 8, runChannels := 0 }) :
    0 < k.lockRun ∧ (9 : Byte) = k.runCount + 1 ∧ 0 = k.runChannels
    ∧ State.reset.linkLock ≤ k.lockRun + 1 := by
  subst hk
  decide +kernel
/-- A link with no channel is sound at any fill up to 128. -/
theorem bare_sound (n : Nat) (h : n ≤ 128) (r : Nat) (hr : r ≤ 3) :
    (bare.modLink 0 fun k => { k with fill := n, badRun := r }).links[(0 : Link)].Sound := by
  have hk : (bare.modLink 0 fun k => { k with fill := n, badRun := r }).links[(0 : Link)]
      = { mode := .locked, fill := n, badRun := r } := rfl
  rw [hk]
  constructor <;> simp [h, hr]
theorem test_witness_GoodFrameFillsTheBuffers (n : Nat) (h : n ≤ 128) (s : State)
    (hs : s = bare.modLink 0 fun k => { k with fill := n, badRun := 0 }) :
    s.links[(0 : Link)].mode = .locked ∧ s.links[(0 : Link)].Sound
    ∧ parseInbound (bareFrame 0 []) = some ⟨0, 0, [], false, []⟩ ∧ 0 = s.links[(0 : Link)].expected
    ∧ 0 = s.links[(0 : Link)].channels ∧ s.links[(0 : Link)].fill = n := by
  subst hs
  exact ⟨rfl, bare_sound n h 0 (by decide), by decide +kernel, rfl, rfl, rfl⟩
/-- At a fill of up to 96 and above it. -/
theorem test_witness_BadFrameAndLapse (n : Nat) (hn : n ≤ 128) (r : Nat) (hr : r ≤ 3) (s : State)
    (hs : s = bare.modLink 0 fun k => { k with fill := n, badRun := r }) :
    s.links[(0 : Link)].mode = .locked ∧ s.links[(0 : Link)].Sound ∧ parseInbound [] = none
    ∧ parseInbound (bareFrame 9 []) = some ⟨9, 0, [], false, []⟩ ∧ 9 ≠ s.links[(0 : Link)].expected
    ∧ s.links[(0 : Link)].badRun = r ∧ s.links[(0 : Link)].fill = n := by
  subst hs
  exact ⟨rfl, bare_sound n hn r hr, rfl, by decide +kernel, show (9 : Byte) ≠ 0 by decide, rfl, rfl⟩
theorem test_witness_UnderrunLapsesAtABoundary (n : Nat) (s : State)
    (hs : s = ready.modLink 0 fun k => { k with fill := n }) :
    MakesBoundary (carrierRow .freeRunning) s .holdover 1000000 silence ∧ s.links[(0 : Link)].mode = .locked
    ∧ s.links[(0 : Link)].fill = n := by
  subst hs
  exact ⟨freeRunning_makes rfl, rfl, rfl⟩
theorem test_witness_UnderrunLapsesAtABoundary_run :
    (∃ v, MakesBoundary (carrierRow (.captureFrame silentFrame 600000)) running .good 600000 v)
    ∧ MakesBoundary (carrierRow .watchExpiry) running .holdover 1250000 silence :=
  ⟨goodFrame_makes rfl, rfl, rfl, rfl⟩
/-- A frame of no channel whose piece is marked. -/
def markedFrame (count : Byte) (piece : List Byte) : List Byte :=
  linkFrame ([count, 0, messageByte piece.length true, 0] ++ piece)
theorem test_witness_PiecesMakeRecords : bare.links[(0 : Link)].mode = .locked
    ∧ bare.links[(0 : Link)].assembly = none
    ∧ 0 = bare.links[(0 : Link)].expected ∧ 0 = bare.links[(0 : Link)].channels
    ∧ parseInbound (bareFrame 0 [9, 11, 5, 0, 4]) = some ⟨0, 0, [], false, [9, 11, 5, 0, 4]⟩
    ∧ (5 : Byte).toNat + 256 * (0 : Byte).toNat ≤ 261
    ∧ [(4 : Byte)].length < (5 : Byte).toNat + 256 * (0 : Byte).toNat
    ∧ parseInbound (bareFrame 0 [9, 11, 1]) = some ⟨0, 0, [], false, [9, 11, 1]⟩
    ∧ parseInbound (bareFrame 0 [9, 11, 6, 1]) = some ⟨0, 0, [], false, [9, 11, 6, 1]⟩
    ∧ parseInbound (bareFrame 0 [9, 11, 0, 0, 4]) = some ⟨0, 0, [], false, [9, 11, 0, 0, 4]⟩
    ∧ parseInbound (markedFrame 0 [4]) = some ⟨0, 0, [], true, [4]⟩ := by decide +kernel
/-- A record in progress of 4 of n bytes, which a piece of one byte leaves short of 6 and a piece of two
bytes takes past 5; the buffers at a fill of m. -/
theorem test_witness_PiecesMakeRecords_further (m : Nat) (hm : m ≤ 128) (n : Nat) (hn : n = 5 ∨ n = 6)
    (s : State) (a : Assembly) (ha : a = ⟨[9, 11, 2, 0], n⟩)
    (hs : s = bare.modLink 0 fun k => { k with fill := m, assembly := some a }) :
    s.links[(0 : Link)].mode = .locked ∧ s.links[(0 : Link)].Sound
    ∧ s.links[(0 : Link)].assembly = some a
    ∧ parseInbound (markedFrame 0 [4, 4]) = some ⟨0, 0, [], true, [4, 4]⟩
    ∧ (n = 6 → a.bytes.length + [(4 : Byte)].length < a.total)
    ∧ (n = 5 → a.total < a.bytes.length + [(4 : Byte), 4].length) := by
  have hk : (bare.modLink 0 fun k => { k with fill := m, assembly := some a }).links[(0 : Link)]
      = { mode := .locked, fill := m, assembly := some a } := rfl
  rw [hs, hk]
  subst ha
  refine ⟨rfl, ?_, rfl, by decide +kernel, ?_, ?_⟩
  · constructor <;> simp [hm]
    omega
  · rintro rfl
    decide
  · rintro rfl
    decide
/-- The record of SET BOTTOM whole in a first piece, beside a record in progress that it drops, and its
last byte as a continuation; the buffers at a fill of n, past 96 among them. -/
theorem test_witness_WholeRecordIsItsRow (n : Nat) (h : n ≤ 128) (s : State) (a : Assembly)
    (ha : a = ⟨[9, 11, 1, 0], 5⟩)
    (hs : s = bare.modLink 0 fun k => { k with fill := n, assembly := some a }) :
    commandOf (.setBottom 0 9 4) = some ⟨0, 9, 11, [4]⟩
    ∧ s.links[(0 : Link)].mode = .locked ∧ s.links[(0 : Link)].Sound
    ∧ 0 = s.links[(0 : Link)].expected ∧ 0 = s.links[(0 : Link)].channels
    ∧ parseInbound (bareFrame 0 [9, 11, 1, 0, 4])
      = some ⟨0, 0, [], false, 9 :: 11 :: (leBytes 2 1 ++ [4])⟩
    ∧ parseInbound (markedFrame 0 [4]) = some ⟨0, 0, [], true, [4]⟩
    ∧ s.links[(0 : Link)].assembly = some a ∧ a.bytes ++ [4] = 9 :: 11 :: (leBytes 2 1 ++ [4])
    ∧ a.total = (9 :: 11 :: (leBytes 2 1 ++ [(4 : Byte)])).length := by
  subst ha hs
  have hk : (bare.modLink 0 fun k =>
      { k with fill := n, assembly := some ⟨[9, 11, 1, 0], 5⟩ }).links[(0 : Link)]
      = { mode := .locked, fill := n, assembly := some ⟨[9, 11, 1, 0], 5⟩ } := rfl
  rw [hk]
  refine ⟨rfl, rfl, ?_, rfl, rfl, by decide +kernel, by decide +kernel, rfl, by decide, by decide⟩
  constructor <;> simp [h]
theorem test_witness_CommandsTurnedAway :
    commandOf (.setBottom 0 9 4) = some ⟨0, 9, 11, [4]⟩
    ∧ State.reset.links[(0 : Link)].mode = .search
    ∧ ready.links[(0 : Link)].mode = .locked
    ∧ 4 ≤ (ready.modLink 0 fun k =>
        { k with places := List.replicate 4 ⟨1, .answer [] 0⟩ }).links[(0 : Link)].places.length
    ∧ (ready.execute 0 1 .resetProcessing).links[(0 : Link)].places.length < 4
    ∧ (ready.execute 0 1 .resetProcessing).links[(0 : Link)].places.any Place.isExecuting = true
    ∧ (ready.execute 0 1 .resetProcessing).links[(0 : Link)].mode = .locked
    ∧ (commandOf (.unknownCommand 0 9 33 (List.replicate 262 0))).map (fun r => r.params.length)
      = some 262 := by decide +kernel
theorem test_witness_CommandRoundTrip :
    Command.canArrive (.setReceive (List.replicate 255 15)) = true
    ∧ Command.canArrive (.unknown 33) = true ∧ Command.canArrive .resetProcessing = true := by
  decide +kernel
theorem test_witness_RecordsRefused : ready.Ready 0 ∧ (List.replicate 261 (0 : Byte)).length ≤ 261
    ∧ 32 < (33 : Byte).toNat ∧ 0 < (9 : Byte).toNat ∧ (9 : Byte).toNat ≤ 32
    ∧ ([] : List Byte).length ≠ paramLength (9 : Byte).toNat [] ∧ 15 < (16 : Byte).toNat
    ∧ (List.replicate 8 (0 : Byte)).length = 8 ∧ 21 < (22 : Byte).toNat
    ∧ (List.replicate 4 (0 : Byte)).length = 4 ∧ 6 < (7 : Byte).toNat :=
  ⟨ready_of (by decide +kernel), by decide +kernel, by decide, by decide, by decide, by decide, by decide,
    by decide, by decide, by decide, by decide⟩
theorem test_witness_ResponsesTravelWhole : 0 < (List.replicate 61 (0 : Byte)).length
    ∧ piecesOf ((List.replicate 61 (0 : Byte)).length / 60 + 2) [⟨1, .answer (List.replicate 61 0) 0⟩]
      = [(List.replicate 60 0, false), ([0], true)] := by decide +kernel

/-- The table of `mapped` is sound. -/
theorem mapped_poolSound : mapped.PoolSound := by constructor <;> decide +kernel
/-- So is that of `anchored`. -/
theorem anchored_poolSound : anchored.PoolSound := by constructor <;> decide +kernel

theorem test_witness_SetWindow : mapped.Ready 0 ∧ 15 < (16 : Byte).toNat ∧ 5 < (6 : Byte).toNat
    ∧ (3 : Byte).toNat ∉ [0, 1, 2, 4, 8, 16, 32, 64] ∧ (0 : Byte).toNat = (0 : Beam).val
    ∧ (0 : Byte).toNat = (0 : Zone).val ∧ (1 : Byte).toNat ∈ [0, 1, 2, 4, 8, 16, 32, 64]
    ∧ (∃ e ∈ mapped.segs, e.addr.beam = 0 ∧ e.addr.zone = 0 ∧ (0 : Byte).toNat ≤ e.addr.pos.val)
    ∧ (∀ e ∈ mapped.segs, e.addr.beam = 0 → e.addr.zone = 0 → e.addr.pos.val < (1 : Byte).toNat) := by
  refine ⟨ready_of (by decide +kernel), ?_⟩
  decide +kernel
theorem test_witness_LowestFreePages : mapped.PoolSound ∧ 8191 ≤ mapped.freeCount ∧
    (0 : Page) < 1 ∧ mapped.role 1 = .free := ⟨mapped_poolSound, by decide +kernel⟩
/-- 1 and 3 positions from 1 on fit the window of 4; 4 do not. -/
theorem test_witness_MapRefusals : mapped.Ready 0 ∧ 15 < (16 : Byte).toNat ∧ (3 : Byte) ≠ 0
    ∧ (0 : Byte).toNat = (0 : Beam).val ∧ (0 : Byte).toNat = (0 : Zone).val
    ∧ mapped.beams[(0 : Beam)].windows[(0 : Zone)] < (1 : Byte).toNat + (4 : Byte).toNat
    ∧ (1 : Byte).toNat + (3 : Byte).toNat ≤ mapped.beams[(0 : Beam)].windows[(0 : Zone)]
    ∧ capturing.modelState 0 ≠ .idle ∧ mapped.modelState 0 = .idle
    ∧ (∃ e ∈ mapped.segs, e.addr.within 0 0 (0 : Byte).toNat (4 : Byte).toNat = true)
    ∧ (∀ e ∈ mapped.segs, e.addr.within 0 0 (1 : Byte).toNat (3 : Byte).toNat = false) := by
  refine ⟨ready_of (by decide +kernel), ?_⟩
  decide +kernel
theorem test_witness_MapRefusals_limits :
    ((crowded 0).modBeam 3 fun k => { k with enable := true, windows := Vector.replicate 6 64 }).Ready 0
    ∧ 1024 < ((crowded 0).modBeam 3 fun k => { k with enable := true }).activeCount + (1 : Byte).toNat
    ∧ (mapped.setSegs (List.replicate 8192 (entry 0 .mapped 0))).freeCount < (1 : Byte).toNat
    ∧ 16 ≤ (mapped.setJobs (List.replicate 16 (.fill 0 0 0 0 0 0 0))).commandJobs
    ∧ (mapped.setJobs (List.replicate 16 (.fill 0 0 0 0 0 0 0))).modelState 0 = .idle
    ∧ (mapped.beams[(0 : Beam)].enable = false ∨ mapped.activeCount + (3 : Byte).toNat ≤ 1024)
    ∧ (3 : Byte).toNat ≤ mapped.freeCount ∧ mapped.beams[(0 : Beam)].anchoring = false := by
  refine ⟨ready_of (by decide +kernel), ?_⟩
  decide +kernel
theorem test_witness_MapSegments : mapped.Ready 0 ∧ mapped.PoolSound ∧ (0 : Byte).toNat = (0 : Beam).val
    ∧ (0 : Byte).toNat = (0 : Zone).val ∧ (3 : Byte) ≠ 0
    ∧ (1 : Byte).toNat + (3 : Byte).toNat ≤ mapped.beams[(0 : Beam)].windows[(0 : Zone)]
    ∧ mapped.beams[(0 : Beam)].windows[(0 : Zone)] ≤ 64 ∧ mapped.modelState 0 = .idle
    ∧ (∀ e ∈ mapped.segs, e.addr.within 0 0 (1 : Byte).toNat (3 : Byte).toNat = false)
    ∧ mapped.activeCount + (3 : Byte).toNat ≤ 1024 ∧ mapped.beams[(0 : Beam)].anchoring = false
    ∧ (3 : Byte).toNat ≤ mapped.freeCount ∧ mapped.commandJobs < 16
    ∧ 256 ≤ mapped.freeCount - (3 : Byte).toNat
    ∧ (∀ j, mapped.jobs.head? = some j → mapped.hasWork j = true) := by
  refine ⟨ready_of (by decide +kernel), mapped_poolSound, ?_⟩
  simp only [← and_assoc]
  exact ⟨by decide +kernel, fun j hj => by cases hj⟩
theorem test_witness_UnmapSegments : mapped.Ready 0 ∧ 63 < (64 : Byte).toNat
    ∧ 64 < (1 : Byte).toNat + (64 : Byte).toNat ∧ (0 : Byte).toNat = (0 : Beam).val
    ∧ (0 : Byte).toNat = (0 : Zone).val ∧ (64 : Byte) ≠ 0 ∧ (0 : Byte).toNat + (64 : Byte).toNat ≤ 64
    ∧ adapting.laneOf 0 ≠ none ∧ capturing.hasMaskingJob 0 = true
    ∧ mapped.laneOf 0 = none ∧ mapped.hasMaskingJob 0 = false
    ∧ (∀ e ∈ mapped.segs, e.addr.within 0 0 (0 : Byte).toNat (64 : Byte).toNat = true → e.state = .mapped)
    ∧ (∀ m : Link, mapped.links[m].request = none) := by
  refine ⟨ready_of (by decide +kernel), ?_⟩
  decide +kernel
theorem test_witness_PinAndUnpin : mapped.Ready 0 ∧ 63 < (64 : Byte).toNat
    ∧ (63 : Byte).toNat ≤ 63 ∧ (1 : Byte) ≠ 0 ∧ (63 : Byte).toNat + (1 : Byte).toNat ≤ 64
    ∧ (15 : Byte).toNat = (15 : Beam).val ∧ (5 : Byte).toNat = (5 : Zone).val := by
  refine ⟨ready_of (by decide +kernel), ?_⟩
  decide +kernel
theorem test_witness_SetAnchoring : mapped.Ready 0 ∧ anchored.Ready 0 ∧ mapped.PoolSound
    ∧ 15 < (16 : Byte).toNat ∧ 1 < (2 : Byte).toNat ∧ (0 : Byte).toNat = (0 : Beam).val
    ∧ mapped.beams[(0 : Beam)].anchoring = false ∧ anchored.beams[(0 : Beam)].anchoring = true
    ∧ (∃ j ∈ capturing.jobs, j.beam = 0) ∧ (∀ j ∈ mapped.jobs, j.beam ≠ 0)
    ∧ (∀ j ∈ anchored.jobs, j.beam ≠ 0) ∧ (mapped.segsOf 0).length ≤ mapped.freeCount
    ∧ 256 ≤ mapped.freeCount - (mapped.segsOf 0).length ∧ (mapped.segsOf 1).length = 0
    ∧ (mapped.setSegs (List.replicate 8192 (entry 0 .mapped 0))).freeCount
      < ((mapped.setSegs (List.replicate 8192 (entry 0 .mapped 0))).segsOf 0).length := by
  refine ⟨ready_of (by decide +kernel), ready_of (by decide +kernel), mapped_poolSound, ?_⟩
  decide +kernel
theorem test_witness_JobCommands_refused : ready.Ready 0 ∧ capturing.Ready 0 ∧ 15 < (16 : Byte).toNat
    ∧ (15 : Byte).toNat = (15 : Beam).val ∧ ready.beams[(15 : Beam)].anchoring = false
    ∧ capturing.beams[(0 : Beam)].anchoring = true ∧ capturing.hasJob 0 = true
    ∧ capturing.hasCopyJob 0 = true ∧ mapped.hasCopyJob 0 = false
    ∧ mapped.beams[(0 : Beam)].anchor.valid = false ∧ anchored.beams[(0 : Beam)].anchor.valid = true
    ∧ 16 ≤ (anchored.setJobs (List.replicate 16 (.fill 1 0 0 0 0 0 0))).commandJobs
    ∧ (anchored.setJobs (List.replicate 16 (.fill 1 0 0 0 0 0 0))).hasJob 0 = false := by
  refine ⟨ready_of (by decide +kernel), ready_of (by decide +kernel), ?_⟩
  decide +kernel
/-- `anchored` has a page for each kind of job of beam 0 and none for beam 1, and its list is empty; then
a CLEAR with a page stands at the head; then a FILL with a page does. -/
theorem test_witness_JobCommands : anchored.Ready 0 ∧ (0 : Byte).toNat = (0 : Beam).val
    ∧ anchored.commandJobs < 16 ∧ anchored.jobs = [] ∧ anchored.beams[(0 : Beam)].anchoring = true ∧ anchored.hasJob 0 = false
    ∧ (∃ e ∈ anchored.segs, e.addr.beam = 0 ∧ e.state = .mapped ∧ e.anchor.isSome = true)
    ∧ anchored.hasCopyJob 0 = false ∧ anchored.beams[(0 : Beam)].anchor.valid = true
    ∧ (0 : Byte).toNat = (0 : Pos).val ∧ (64 : Byte) ≠ 0
    ∧ (0 : Byte).toNat + (64 : Byte).toNat = (63 : Pos).val + 1
    ∧ (∃ e ∈ anchored.segs, e.addr.within 0 0 (0 : Byte).toNat (64 : Byte).toNat = true
      ∧ e.state = .mapped) := by
  refine ⟨ready_of (by decide +kernel), by decide, by decide +kernel, rfl, ?_⟩
  decide +kernel
theorem test_witness_JobCommands_pageless (s : State)
    (hs : s = anchored.modBeam 1 fun k =>
      { k with anchoring := true, anchor := { k.anchor with valid := true } }) :
    s.Ready 0 ∧ s.jobs = [] ∧ s.beams[(1 : Beam)].anchoring = true
    ∧ s.beams[(1 : Beam)].anchor.valid = true ∧ s.hasJob 1 = false ∧ s.hasCopyJob 1 = false
    ∧ (∀ e ∈ s.segs, e.addr.beam = 1 → e.state = .mapped → e.anchor = none)
    ∧ (∀ e ∈ s.segs, e.addr.beam = 1 → e.state = .clearing)
    ∧ (∀ e ∈ s.segs, e.addr.within 1 0 (0 : Byte).toNat (64 : Byte).toNat = true → e.state = .clearing)
    := by
  subst hs
  refine ⟨ready_of (by decide +kernel), ?_⟩
  decide +kernel
theorem test_witness_JobCommands_behind (j : Job)
    (hj : j = .clear 0 .trigger 0 ∨ j = .fill 0 0 0 63 5 0 0) :
    (anchored.setJobs [j]).jobs.head? = some j ∧ (anchored.setJobs [j]).hasWork j = true
    ∧ (anchored.setJobs [j]).commandJobs < 16 ∧ (anchored.setJobs [j]).hasCopyJob 1 = false
    ∧ (j = .clear 0 .trigger 0 → j.isRestoreClass = true)
    ∧ (j = .fill 0 0 0 63 5 0 0 → j.isRestoreClass = false) := by
  rcases hj with rfl | rfl <;> decide +kernel
theorem test_witness_StoreCommands : mapped.Ready 0 ∧ (List.replicate 64 (0 : Coef)).length ≤ 64
    ∧ (List.replicate 64 (0 : Coef)).length = (64 : Byte).toNat
    ∧ ([] : List Coef).length ≠ (64 : Byte).toNat ∧ 63 < (64 : Byte).toNat ∧ 64 < (65 : Byte).toNat
    ∧ 256 < (193 : Byte).toNat + (64 : Byte).toNat ∧ (192 : Byte).toNat + (64 : Byte).toNat ≤ 256
    ∧ (0 : Byte).toNat = (0 : Beam).val ∧ (0 : Byte).toNat = (0 : Pos).val
    ∧ mapped.seg? ⟨0, 0, 1⟩ = none ∧ mapped.seg? ⟨0, 0, 0⟩ = some (entry 0 .mapped 0)
    ∧ mapped.hasMaskingJob 0 = false ∧ capturing.hasMaskingJob 0 = true
    ∧ capturing.seg? ⟨0, 0, 0⟩ = some { entry 0 .mapped 0 with anchor := some 1 } := by
  refine ⟨ready_of (by decide +kernel), ?_⟩
  decide +kernel
theorem test_witness_TimerLinkMemoryQueries : ready.Ready 0 ∧ 1 < (2 : Byte).toNat
    ∧ ready.port.last = none
    ∧ (ready.modPort fun k => { k with last := some ⟨8191, 127, 0, .scrub⟩ }).port.last
      = some ⟨8191, 127, 0, .scrub⟩ := by
  refine ⟨ready_of (by decide +kernel), ?_⟩
  decide +kernel
theorem test_witness_PoolSchedulerBeamPathQueries : adapting.Ready 0 ∧ 1 < (2 : Byte).toNat
    ∧ 15 < (16 : Byte).toNat ∧ (0 : Byte).toNat = (0 : Beam).val
    ∧ adapting.sched.lanes[(2 : LaneNo)] = some ⟨0, 0, false, 0, 0, 1⟩
    ∧ adapting.sched.lanes[(0 : LaneNo)] = none ∧ (63 : Byte).toNat = (63 : Pos).val
    ∧ (63 : Pos) ≤ 63 ∧ adapting.seg? ⟨0, 0, 63⟩ = none
    ∧ adapting.seg? ⟨0, 0, 0⟩ = some (entry 0 .mapped 0) := by
  refine ⟨ready_of (by decide +kernel), ?_⟩
  decide +kernel
theorem test_witness_WordCode : Memory.wf [] = true ∧ 127 < 128
    ∧ ((1, 0) : Page × Nat) ≠ ((0, 127) : Page × Nat) := by decide +kernel
/-- Nothing before the first boundary, nothing past the budget, a read; then each place of the grant
order has a state in which it is next. -/
theorem test_witness_PortRowsWait : ready.port.account = none ∧ ready.nextGrant = none
    ∧ 2048 ≤ Account.total { copy := 2048 } ∧ reading.port.account = some {} ∧ reading.work.reads ≠ []
    ∧ adapting.port.account = some {} ∧ Account.total {} < 2048 ∧ adapting.work.reads = []
    ∧ adapting.port.engineCount < adapting.port.share ∧ adapting.sched.demand ≠ []
    ∧ adapting.jobs = [] ∧ adapting.port.mark = .updater
    ∧ (opened mapped).sched.demand = [] ∧ (opened mapped).jobs = []
    ∧ 4 ≤ Account.scrub { scrub := 4 } ∧ Account.scrub {} < 4 ∧ (opened mapped).port.repairs = [] := by
  decide +kernel
theorem test_witness_PortRowsWait_stores (m : Access) (s : State)
    (hs : s = (after (.readCoefficients 0 9 0 0 0 0 1) (opened mapped)).modLink 0 fun k =>
      { k with access := m }) :
    s.FirstStore m 0 ∧ (m = .background → s.NoStore .priority) ∧ (opened mapped).NoStore .priority
    ∧ (opened mapped).NoStore .background := by
  subst hs
  refine ⟨⟨by cases m <;> decide +kernel, by cases m <;> decide +kernel,
    fun k hk => absurd hk (Nat.not_lt_zero _)⟩, ?_, ?_, ?_⟩
  · rintro rfl
    unfold State.NoStore
    decide +kernel
  · unfold State.NoStore
    decide +kernel
  · unfold State.NoStore
    decide +kernel
/-- The copy unit has demand for a CLEAR, and none with no job. -/
theorem test_witness_PortRowsWait_copy (s : State) (hs : s = adapting.setJobs [.clear 0 .trigger 0]) :
    s.CopyAsks {} ∧ ¬ adapting.CopyAsks {} := by
  subst hs
  exact ⟨⟨_, [], rfl, by decide +kernel, by decide⟩, fun ⟨j, r, h, _⟩ => by cases h⟩
/-- Page 0 is written and allocated: it is next at a scrub position of 0, and of 1 by the wrap. -/
theorem test_witness_PortRowsWait_scrub (n : Nat) (hn : n = 0 ∨ n = 1) (s : State)
    (hs : s = ((opened mapped).modPool fun k => { k with written := 1 }).modPort fun k =>
      { k with scrubPos := n }) :
    s.ScrubNext 0 ∧ ∀ p, ¬ (opened mapped).ScrubReads p := by
  have hr : ∀ q : Page, s.ScrubReads q → q = 0 := by
    rintro q ⟨-, hw⟩
    have h1 : s.pool.written = 1 := by subst hs; rfl
    rw [h1] at hw
    have : q.val = 0 := by simpa [BitVec.getLsbD_one] using hw
    exact Fin.ext this
  have h0 : s.ScrubReads 0 := by
    subst hs
    rcases hn with rfl | rfl <;> exact ⟨by decide +kernel, by decide +kernel⟩
  refine ⟨⟨h0, ?_⟩, ?_⟩
  · rcases hn with rfl | rfl
    · left
      exact ⟨by subst hs; decide +kernel, fun q _ _ => Fin.zero_le q⟩
    · right
      refine ⟨fun q hq => ?_, fun q _ => Fin.zero_le q⟩
      rw [hr q hq]
      subst hs
      decide +kernel
  · rintro p ⟨-, hw⟩
    have h1 : (opened mapped).pool.written = 0 := rfl
    rw [h1] at hw
    simp at hw
/-- Two reads of beam 0 are asked for. -/
def reading2 : State := reading.modWork fun k => { k with reads := [⟨0, 0, 0⟩, ⟨0, 0, 1⟩] }
theorem test_witness_SegmentReadGrant : reading2.port.account = some {} ∧ Account.total {} < 2048
    ∧ reading2.work.reads = ⟨0, 0, 0⟩ :: [⟨0, 0, 1⟩]
    ∧ (∃ y ∈ [(⟨0, 0, 1⟩ : SegAddr)], y.beam = (⟨0, 0, 0⟩ : SegAddr).beam)
    ∧ reading2.seg? ⟨0, 0, 0⟩ = some (entry 0 .mapped 0)
    ∧ (reading2.setSegs []).seg? ⟨0, 0, 0⟩ = none ∧ reading2.PoolSound := by
  refine ⟨rfl, by decide, rfl, by decide, rfl, rfl, ?_⟩
  constructor <;> decide +kernel
/-- A page of which word 5 is not readable: two bits of it are wrong. -/
theorem test_witness_SegmentReadGrant_faulty :
    readWord (writeByte [] (9 * 5) 3) 0 5 = .uncorrectable := by decide +kernel
/-- The one read of beam 0 is its last. -/
theorem reading_lastAsked (s : State) (hs : s.port = reading.port) (hw : s.work.reads = [⟨0, 0, 0⟩]) :
    s.LastAsked ⟨0, 0, 0⟩ [] {} :=
  ⟨by rw [hs]; rfl, by decide, hw, fun y hy => by cases hy⟩
theorem test_witness_EstimateCompletes : reading.LastAsked ⟨0, 0, 0⟩ [] {}
    ∧ reading.readEntry ⟨0, 0, 0⟩ = some (entry 0 .mapped 0) ∧ reading.PoolSound
    ∧ (∀ r ∈ (reading.work.bases ++ [Base.mk ⟨0, 0, 0⟩ (coefsOf reading.mem 0)
        (lostWords reading.mem 0).length]).filter (fun r => r.addr.beam == 0), r.coefs.length = 256) := by
  refine ⟨reading_lastAsked _ rfl rfl, rfl, by constructor <;> decide +kernel, ?_⟩
  intro r hr
  have : r = Base.mk ⟨0, 0, 0⟩ (coefsOf reading.mem 0) (lostWords reading.mem 0).length := by
    have hb : reading.work.bases = [] := rfl
    have hm := (List.mem_filter.mp hr).1
    rw [hb, List.nil_append, List.mem_singleton] at hm
    exact hm
  rw [this]
  decide +kernel
/-- A last read that is dropped: the entry is gone, or CLEARING. -/
theorem test_witness_EstimateCompletes_dropped (es : List Segment)
    (he : es = [] ∨ es = [entry 0 .clearing 0]) (s : State) (hs : s = reading.setSegs es) :
    s.LastAsked ⟨0, 0, 0⟩ [] {} ∧ s.readEntry ⟨0, 0, 0⟩ = none ∧ s.PoolSound ∧ s.work.bases = [] := by
  subst hs
  refine ⟨reading_lastAsked _ rfl rfl, ?_, ?_, rfl⟩ <;> rcases he with rfl | rfl
  · rfl
  · rfl
  · constructor <;> decide +kernel
  · constructor <;> decide +kernel
theorem test_witness_AdaptationWriteGrant : adapting.nextGrant = some .updater
    ∧ adapting.port.account = some {} ∧ adapting.sched.demand = ⟨2, ⟨0, 0, 0⟩⟩ :: []
    ∧ adapting.seg? ⟨0, 0, 0⟩ = some (entry 0 .mapped 0)
    ∧ adapting.work.bases.find? (fun r => r.addr == ⟨0, 0, 0⟩)
      = some ⟨⟨0, 0, 0⟩, List.replicate 256 7, 0⟩
    ∧ Memory.wf adapting.mem = true ∧ adapting.sched.lanes[(2 : LaneNo)] = some ⟨0, 0, false, 0, 0, 1⟩
    ∧ adapting.remaining 0 1 = [] ∧ (adapting.setSegs [entry 0 .mapped 0, entry 1 .mapped 1]).remaining 0 1
      = entry 1 .mapped 1 :: [] := by decide +kernel
/-- Each kind of job at the head of the list, with one page left; a ZERO's is CLEARING. -/
theorem test_witness_CopyUnitGrant (j : Job) (e : Segment)
    (hj : (j = .capture 0 .trigger 0 false ∨ j = .restore 0 .trigger 0 true ∨ j = .clear 0 .trigger 0
        ∨ j = .fill 0 0 0 63 5 0 0) ∧ e = { entry 0 .mapped 0 with anchor := some 1 }
      ∨ j = .zero 0 0 [0] 0 0 ∧ e = { entry 0 .clearing 0 with anchor := some 1 }) (s : State)
    (hs : s = ((((opened anchored).modBeam 0 fun k =>
      { k with anchor := { k.anchor with valid := false } }).setSegs [e]).setJobs [j])) :
    s.nextGrant = some .copyUnit ∧ s.port.account = some {} ∧ s.jobs = j :: [] ∧ s.jobNext j = some e
    ∧ Memory.wf s.mem = true ∧ s.PoolSound ∧ s.JobsSound ∧ s.hasWork (j.past e) = false := by
  subst hs
  rcases hj with ⟨rfl | rfl | rfl | rfl, rfl⟩ | ⟨rfl, rfl⟩ <;>
    refine ⟨by decide +kernel, rfl, rfl, by decide +kernel, rfl, by constructor <;> decide +kernel,
      jobsSound_of_one rfl (by decide +kernel) ?_ ⟨by decide +kernel, ?_⟩ rfl (by decide +kernel),
      by decide +kernel⟩
  all_goals first
    | (intro b z ps n l h; cases h; done)
    | (intro a ha; cases ha; done)
    | skip
  · intro b z ps n l h
    cases h
    decide
  · intro a ha
    cases List.mem_singleton.mp ha
    exact ⟨_, rfl, rfl⟩
/-- A CLEAR with a page left after this one. -/
theorem test_witness_CopyUnitGrant_more :
    ((opened anchored).setSegs [entry 0 .mapped 0, entry 1 .mapped 1]).hasWork
      ((Job.clear 0 .trigger 0).past (entry 0 .mapped 0)) = true := by decide +kernel
/-- A read of one coefficient and a write of one wait on link 0, with no command or one behind them; the
DRAM is empty, or a word of the page has two wrong bits. -/
theorem test_witness_StoreGrants (c : Instr) (s : State) (k : StoreKind) (ws : List Place)
    (m : List Host.Cell) (hm : m = [] ∨ m = writeByte [] (9 * 127) 3)
    (hw : ws = [] ∨ ws = [⟨9, .queued (.setBottom 4)⟩])
    (hc : (c = .readCoefficients 0 9 0 0 0 255 1 ∧ k = .read)
      ∨ (c = .writeCoefficients 0 9 0 0 0 255 1 [5] ∧ k = .write [5]))
    (hs : s = ((after c (opened mapped)).modLink 0 fun k => { k with places := k.places ++ ws }).setMem m) :
    s.nextGrant = some (.store 0) ∧ s.port.account = some {}
    ∧ s.seg? ⟨0, 0, 0⟩ = some (entry 0 .mapped 0) ∧ (∃ d, s.WaitsForStore 0 [] 9 d ws)
    ∧ s.links[(0 : Link)].request = some ⟨k, ⟨0, 0, 0⟩, 255, 1⟩ ∧ 0 < 1 ∧ 255 + 1 ≤ 256 ∧ 1 ≤ 64
    ∧ s.PoolSound ∧ Memory.wf s.mem = true := by
  have hq : ∀ p ∈ ws, ∃ d, p.stage = .queued d := by
    rcases hw with rfl | rfl
    · intro p hp
      cases hp
    · intro p hp
      cases List.mem_singleton.mp hp
      exact ⟨_, rfl⟩
  subst hs
  rcases hc with ⟨rfl, rfl⟩ | ⟨rfl, rfl⟩
  · refine ⟨?_, rfl, rfl, ⟨.readCoefficients 0 0 0 255 1, rfl, rfl, by simp, hq, ?_⟩, rfl, by decide,
      by decide, by decide, ?_, ?_⟩
    · rcases hw with rfl | rfl <;> rcases hm with rfl | rfl <;> decide +kernel
    · rcases hw with rfl | rfl <;> rcases hm with rfl | rfl <;> decide +kernel
    · rcases hw with rfl | rfl <;> rcases hm with rfl | rfl <;> constructor <;> decide +kernel
    · rcases hw with rfl | rfl <;> rcases hm with rfl | rfl <;> decide +kernel
  · refine ⟨?_, rfl, rfl, ⟨.writeCoefficients 0 0 0 255 [5], rfl, rfl, by simp, hq, ?_⟩, rfl, by decide,
      by decide, by decide, ?_, ?_⟩
    · rcases hw with rfl | rfl <;> rcases hm with rfl | rfl <;> decide +kernel
    · rcases hw with rfl | rfl <;> rcases hm with rfl | rfl <;> decide +kernel
    · rcases hw with rfl | rfl <;> rcases hm with rfl | rfl <;> constructor <;> decide +kernel
    · rcases hw with rfl | rfl <;> rcases hm with rfl | rfl <;> decide +kernel
/-- The queued command is the record of SET BOTTOM; of the two states of the DRAM one loses the word. -/
theorem test_witness_StoreGrants_clauses :
    commandOf (.setBottom 0 9 4) = some ⟨0, 9, 11, [4]⟩ ∧ parseCommand 11 [4] = .setBottom 4
    ∧ lostAmong [] 0 [127] = [] ∧ lostAmong (writeByte [] (9 * 127) 3) 0 [127] = [127] := by
  decide +kernel
/-- Nothing else is pending, with a repair listed or none; the next scrub page is the subject of
`test_witness_PortRowsWait_scrub`. -/
theorem test_witness_RepairAndScrub (rs : List Repair) (s : State)
    (hs : s = (opened mapped).modPort fun k => { k with repairs := rs }) :
    s.CareDue {} ∧ s.port.repairs = rs ∧ Memory.wf s.mem = true ∧ s.role 0 = .segment ⟨0, 0, 0⟩ := by
  subst hs
  have hl : ∀ l : Link, (opened mapped).links[l].request = none := by decide +kernel
  have hr : (opened mapped).role 0 = .segment ⟨0, 0, 0⟩ := by decide +kernel
  exact ⟨⟨rfl, by decide, rfl, hl, (fun ⟨_, _, h, _⟩ => by cases h), rfl, by decide⟩, rfl, rfl, hr⟩
/-- A word of a page is lost; page 1 is an anchor page, with no job listed and with a CAPTURE. -/
theorem test_witness_RepairAndScrub_lost :
    lostWords (writeByte [] (9 * 127) 3) 0 ≠ [] ∧ lostWords (writeByte [] (9 * 255) 3) 1 ≠ []
    ∧ anchored.role 1 = .anchor ⟨0, 0, 0⟩ ∧ anchored.jobs = []
    ∧ (opened capturing).jobs = [.capture 0 (.command 0) 0 false] := by
  refine ⟨?_, ?_, by decide +kernel, rfl, rfl⟩
  · have : readWord (writeByte [] (9 * 127) 3) 0 127 = .uncorrectable := by decide +kernel
    exact List.ne_nil_of_mem (List.mem_filter.mpr ⟨List.mem_range.mpr (by decide : 127 < 128), by
      rw [this]; rfl⟩)
  · have : readWord (writeByte [] (9 * 255) 3) 1 127 = .uncorrectable := by decide +kernel
    exact List.ne_nil_of_mem (List.mem_filter.mpr ⟨List.mem_range.mpr (by decide : 127 < 128), by
      rw [this]; rfl⟩)

/-- Beam 0 about to be evaluated in a GOOD block with its far end active: `f` sets what else it holds. The
taken rings are left empty, so that the estimate is 0. -/
def evaluating (f : BeamState → BeamState) : State :=
  ((((opened anchored).modWork fun k =>
    { k with reads := [⟨0, 0, 0⟩], rings := Vector.replicate 6 [] }).modTimer fun k =>
    { k with status := .good }).modZone 0 fun k => { k with ex := 10, px := 1000000 }).modBeam 0 fun k =>
      f { k with set := { k.set with farThreshold := 0, coupling := 65535 } }
/-- Its entry. -/
def anchoredEntry : Segment := { entry 0 .mapped 0 with anchor := some 1 }
/-- The state in which its read has been carried out. -/
def evaluated (f : BeamState → BeamState) : State :=
  ((((evaluating f).modWork fun k => { k with reads := [] }).modBeam 0 fun k => k).modWork fun k =>
    { k with bases := k.bases ++ [⟨⟨0, 0, 0⟩,
      unpackWords (((evaluating f).readWords 0 allWords).map fun w => w.2.value), 0⟩] }).charge
    fun c => { c with segmentReads := c.segmentReads + 1 }
theorem evaluating_read (f : BeamState → BeamState) : (evaluating f).readHead = evaluated f :=
  State.readHead_clean (e := anchoredEntry) rfl rfl rfl (cleanWords_nil _ _)
theorem evaluating_lastAsked (f : BeamState → BeamState) :
    (evaluating f).LastAsked ⟨0, 0, 0⟩ [] {} ∧ (evaluating f).timer.status = .good
    ∧ (evaluating f).readEntry ⟨0, 0, 0⟩ = some anchoredEntry :=
  ⟨reading_lastAsked (evaluating f) rfl rfl, rfl, rfl⟩
/-- In FAR ONLY, with an error power of 1600 and a captured power of 0. -/
def diverging (k : BeamState) : BeamState :=
  { k with
    est := { k.est with pe := 1600 }, talk := { k.talk with state := .farOnly }
    set := { k.set with divergenceCount := 2 } }
/-- Beam 0's evaluation in u: FE without NE, so that the candidate is FAR ONLY. -/
theorem evaluating_farOnly (f : BeamState → BeamState)
    (hf : ∀ k, (f k).windows = k.windows ∧ (f k).set.coupling = k.set.coupling
      ∧ (f k).set.farThreshold = k.set.farThreshold) :
    ((List.finRange 6).map fun z =>
      if 0 < (evaluating f).beams[(0 : Beam)].windows[z] then (evaluating f).zones[z].ex else 0).sum = 10
    ∧ ((List.finRange 6).map fun z =>
      if 0 < (evaluating f).beams[(0 : Beam)].windows[z] then (evaluating f).zones[z].px else 0).sum
        = 1000000
    ∧ (evaluating f).beams[(0 : Beam)].set.farThreshold < 10
    ∧ (evaluating f).beams[(0 : Beam)].set.coupling = 65535 := by
  have hb : ∃ k, (evaluating f).beams[(0 : Beam)] = f k ∧ k.windows = mapped.beams[(0 : Beam)].windows
      ∧ k.set.coupling = 65535 ∧ k.set.farThreshold = 0 := ⟨_, rfl, rfl, rfl, rfl⟩
  obtain ⟨k, hk, hw, hc, ht⟩ := hb
  have hz : (evaluating f).zones = (evaluating id).zones := rfl
  rw [hk, (hf k).1, (hf k).2.1, (hf k).2.2, hw, hc, ht, hz]
  decide +kernel
/-- The step of the last read, from the state in which the read has been carried out. -/
theorem evaluating_after (f : BeamState → BeamState) :
    after .segmentReadGrant (evaluating f) = ((evaluated f).completeIfLast 0).formIfDone := by
  have hg : (evaluating f).nextGrant = some .segmentRead := by
    have ha : (evaluating f).port.account = some {} := rfl
    have hr : (evaluating f).work.reads = [⟨0, 0, 0⟩] := rfl
    simp [State.nextGrant, ha, hr, Account.total, Config.blockBudget]
  have hr : (evaluating f).work.reads = [⟨0, 0, 0⟩] := rfl
  rw [← evaluating_read]
  simp only [after, exec, execSegmentReadGrant, hg, if_true, State.segmentRead, hr]
theorem test_witness_EvaluationEvents_divergence (f : BeamState → BeamState)
    (hf : f = diverging ∨ f = (fun k => { diverging k with
      anchor := { k.anchor with valid := false }, talk := { (diverging k).talk with divergenceRun := 1 } }))
    (u : State) (hu : u = after .segmentReadGrant (evaluating f)) :
    (evaluating f).JobsSound ∧ (evaluating f).PoolSound
    ∧ (evaluating f).beams[(0 : Beam)].enable = true ∧ (evaluating f).modelState 0 = .idle
    ∧ (evaluating f).beams[(0 : Beam)].talk.state = .farOnly
    ∧ u.beams[(0 : Beam)].talk.state = .farOnly
    ∧ ¬ 65535 * 1000000 < 256 * u.beams[(0 : Beam)].est.pd
    ∧ (16 + (evaluating f).beams[(0 : Beam)].set.margin) * u.beams[(0 : Beam)].est.pd
      < 16 * u.beams[(0 : Beam)].est.pe := by
  rw [hu, evaluating_after]
  clear hu
  rcases hf with rfl | rfl <;>
    refine ⟨jobsSound_of_idle rfl rfl (by decide +kernel), by constructor <;> decide +kernel, ?_⟩ <;>
    decide +kernel
/-- The run is below the count, and at it; the anchor is VALID, and is not. -/
theorem test_witness_EvaluationEvents_divergence_run :
    (evaluating diverging).beams[(0 : Beam)].talk.divergenceRun + 1
      < (evaluating diverging).beams[(0 : Beam)].set.divergenceCount
    ∧ (evaluating diverging).beams[(0 : Beam)].anchor.valid = true
    ∧ (evaluating fun k => { diverging k with talk := { (diverging k).talk with divergenceRun := 1 } }).beams[(0 :
        Beam)].talk.divergenceRun + 1 = 2 := by decide +kernel
/-- In LATCHED mode the request condition turns true, or the latch is already set. -/
theorem test_witness_EvaluationEvents_latch (f : BeamState → BeamState)
    (hf : f = fun k => { diverging k with set := { (diverging k).set with trigger := .latched } })
    (u : State) (hu : u = after .segmentReadGrant (evaluating f)) :
    (evaluating f).requestRises u 0 = true ∧ (evaluating f).beams[(0 : Beam)].latch = false
    ∧ (evaluating fun k => { k with latch := true }).beams[(0 : Beam)].latch = true := by
  rw [hu, evaluating_after]
  clear hu
  subst hf
  decide +kernel
/-- In QUIET with no candidate the run is 1: below a normal count of 2, and at one of 1. -/
theorem test_witness_EvaluationEvents_talk :
    (evaluating id).beams[(0 : Beam)].talk.state = .quiet
    ∧ (evaluating id).beams[(0 : Beam)].talk.candidate = none
    ∧ 1 < (evaluating id).beams[(0 : Beam)].set.normalCount
    ∧ ¬ 65535 * 1000000 < 256 * (after .segmentReadGrant (evaluating id)).beams[(0 : Beam)].est.pd
    ∧ (evaluating fun k => { k with set := { k.set with normalCount := 1 } }).beams[(0 :
        Beam)].set.normalCount = 1 := by
  rw [evaluating_after]
  decide +kernel
/-- In FAR ONLY, with a captured power of 1600 and no error power; a capture count of 2. -/
def cancelling (k : BeamState) : BeamState :=
  { k with
    est := { k.est with pd := 1600 }, talk := { k.talk with state := .farOnly }
    set := { k.set with captureCount := 2, captureInterval := 0 } }
theorem test_witness_EvaluationEvents_capture (f : BeamState → BeamState)
    (hf : f = cancelling ∨ f = (fun k => { cancelling k with
      anchor := { k.anchor with valid := false }, talk := { (cancelling k).talk with captureRun := 1 } }))
    (u : State) (hu : u = after .segmentReadGrant (evaluating f)) :
    (evaluating f).JobsSound ∧ (evaluating f).PoolSound
    ∧ (evaluating f).beams[(0 : Beam)].enable = true ∧ (evaluating f).modelState 0 = .idle
    ∧ (evaluating f).hasJob 0 = false ∧ (evaluating f).beams[(0 : Beam)].talk.state = .farOnly
    ∧ (evaluating f).beams[(0 : Beam)].talk.copyQueued = false
    ∧ ¬ 65535 * 1000000 < 256 * u.beams[(0 : Beam)].est.pd
    ∧ (evaluating f).beams[(0 : Beam)].set.captureRatio * u.beams[(0 : Beam)].est.pe
      ≤ u.beams[(0 : Beam)].est.pd
    ∧ u.beams[(0 : Beam)].est.pe ≤ u.beams[(0 : Beam)].est.pd
    ∧ u.beams[(0 : Beam)].talk.state = .farOnly ∧ (evaluating f).declaresIn u 0 = false
    ∧ 16 * u.beams[(0 : Beam)].est.pe
      ≤ (16 + (evaluating f).beams[(0 : Beam)].set.margin) * u.beams[(0 : Beam)].est.pd
    ∧ (evaluating f).beams[(0 : Beam)].anchoring = true := by
  rw [hu, evaluating_after]
  clear hu
  rcases hf with rfl | rfl <;>
    refine ⟨jobsSound_of_idle rfl rfl (by decide +kernel), by constructor <;> decide +kernel, ?_⟩ <;>
    decide +kernel
/-- The run is below the count, and at it; the anchor is VALID and old enough. -/
theorem test_witness_EvaluationEvents_capture_run :
    (evaluating cancelling).beams[(0 : Beam)].talk.captureRun + 1
      < (evaluating cancelling).beams[(0 : Beam)].set.captureCount
    ∧ (evaluating cancelling).beams[(0 : Beam)].set.captureInterval
      ≤ ((evaluating cancelling).timer.block - (evaluating cancelling).beams[(0 : Beam)].anchor.block).toNat
    ∧ (evaluating fun k => { cancelling k with talk := { (cancelling k).talk with captureRun := 1 } }).beams[(0 :
        Beam)].talk.captureRun + 1 = 2 := by decide +kernel
/-- R109: the first evaluation after a CAPTURE of the beam was queued leaves the run at 0, although the
job has left the list and every other condition holds; the next one counts again. -/
theorem test_captureRun_after_capture (f : BeamState → BeamState)
    (hf : f = fun k => { cancelling k with
      talk := { (cancelling k).talk with captureRun := 1, copyQueued := true } }) (u : State)
    (hu : u = after .segmentReadGrant (evaluating f)) :
    u.beams[(0 : Beam)].talk.captureRun = 0 ∧ u.beams[(0 : Beam)].talk.copyQueued = false
    ∧ u.jobs = [] := by
  rw [hu, evaluating_after]
  clear hu
  subst hf
  decide +kernel
/-- R109: a CHECKPOINT BEAM that completes at once leaves the note for the next evaluation. -/
theorem test_copyQueued_after_completion (u : State)
    (hu : u = after (.checkpointBeam 0 9 1) (anchored.modBeam 1 fun k => { k with anchoring := true })) :
    u.beams[(1 : Beam)].talk.copyQueued = true ∧ u.jobs = []
    ∧ u.beams[(1 : Beam)].anchor.valid = true := by
  rw [hu]
  clear hu
  decide +kernel
/-- R145, R127: a formation moves a pass past a segment that has been pinned, to the next one, although
its block did not read it. -/
theorem test_formation_passes_pinned (s : State)
    (hs : s = ((mapped.setSegs [{ entry 0 .mapped 0 with pinned := true }, entry 3 .mapped 1]).modBeam 0
      fun k => { k with talk := { k.talk with state := .farOnly } }).modTimer fun k =>
        { k with status := .good }) :
    ((s.modSched fun k => { k with lanes := k.lanes.set 1 (some ⟨0, 0, true, 4, 2, 7⟩) }).formDemand
      ).sched.lanes[(1 : LaneNo)] = some ⟨0, 3, false, 0, 2, 7⟩ := by
  subst hs
  decide +kernel
/-- Beam 0's read is dropped, and the list is formed. Beam 5, frozen by link 0, holds lane 2 with an age at
and below the hold limit of 200 less 1; or nothing masks beam 5, with no segment left. -/
def forming (age : Nat) (fz : BitVec 16) : State :=
  (((((reading.setSegs []).modSched fun k =>
    { k with lanes := k.lanes.set 2 (some ⟨5, 0, false, age, 0, 0⟩) }).modLink 0 fun k =>
      { k with freeze := fz }).modTimer fun k => { k with status := .good }).modBeam 5 fun k =>
        { k with enable := true, talk := { k.talk with state := .farOnly } })
theorem test_witness_DemandListAndHoldLimit (age : Nat) (fz : BitVec 16) (ha : age = 199 ∨ age = 198)
    (hz : fz = 32 ∨ fz = 0) (s u : State) (hs : s = forming age fz) (hu : u = after .segmentReadGrant s) :
    s.FormsAt .segmentRead ∧ s.JobsSound ∧ s.PoolSound
    ∧ s.sched.lanes[(2 : LaneNo)] = some ⟨5, 0, false, age, 0, 0⟩ ∧ s.keepsPass u 5 = true
    ∧ u.masked 5 = (fz == 32) ∧ s.sched.lanes[(1 : LaneNo)] = none ∧ u.remaining 5 0 = []
    ∧ u.sched.listed < 256 ∧ s.sched.rotation = .rotating
    ∧ (age = 199 → s.sched.holdLimit ≤ age + 1) ∧ (age = 198 → age + 1 < s.sched.holdLimit) := by
  have hl : ∀ (n : LaneNo) (p : Pass), s.sched.lanes[n] = some p → n = 2 ∧ p.beam = 5 := by
    intro n p hn
    subst hs
    by_cases h2 : n = 2
    · subst h2
      refine ⟨rfl, ?_⟩
      have hp : some (⟨5, 0, false, age, 0, 0⟩ : Pass) = some p := hn
      cases hp
      rfl
    · have h : (forming age fz).sched.lanes[n] = none := by
        match n, h2 with
        | 0, _ => rfl
        | 1, _ => rfl
        | 3, _ => rfl
      cases h.symm.trans hn
  have hj : s.jobs = [] := by subst hs; rfl
  have hb : ∀ b : Beam, s.beams[b].anchor.valid = false := by
    subst hs
    rcases ha with rfl | rfl <;> rcases hz with rfl | rfl <;> decide +kernel
  refine ⟨.inl ⟨rfl, ⟨0, 0, 0⟩, {}, ?_⟩, ?_, ?_, ?_⟩
  · subst hs
    exact reading_lastAsked _ rfl rfl
  · constructor
    · simp [State.commandJobs, hj]
    · simp [hj]
    · simp [hj]
    · simp [hj]
    · simp [hj]
    · simp [hj]
    · simp [hj]
    · simp [hj]
    · intro b hv
      cases (hb b).symm.trans hv
    · intro m n p q hm hn _
      rw [(hl m p hm).1, (hl n q hn).1]
    · intro n p _
      simp [State.hasMaskingJob, hj]
  · subst hs
    rcases ha with rfl | rfl <;> rcases hz with rfl | rfl <;> constructor <;> decide +kernel
  · subst hu hs
    rcases ha with rfl | rfl <;> rcases hz with rfl | rfl <;> decide +kernel
/-- The list of a block without reads is formed at its boundary: beam 1 of `mapped` has no segment, and
beam 0, disabled, asks for none. -/
theorem test_witness_DemandListAndHoldLimit_boundary (s : State)
    (hs : s = mapped.modBeam 0 fun k => { k with enable := false }) :
    s.FormsAt .freeRunning ∧ s.JobsSound ∧ s.PoolSound := by
  subst hs
  refine ⟨.inr ⟨rfl, ⟨_, _, _, freeRunning_makes rfl⟩, ?_⟩, jobsSound_of_idle rfl rfl (by decide +kernel),
    by constructor <;> decide +kernel⟩
  intro e he _ _
  cases List.mem_singleton.mp he
  exact .inl rfl

/-- Beam 0 in lane 2 has 257 segments in zones 0 to 4 read in the block, one more than a list holds, and
beam 1's read is dropped: the list is full, and the position moves to the first of them. -/
theorem test_witness_DemandListAndHoldLimit_full (s u : State) (as : List SegAddr)
    (ha : as = ((List.range 257).map (· + 1)).map fun i => ⟨0, Fin.ofNat 6 (i / 64), Fin.ofNat 64 (i % 64)⟩)
    (hs : s = ((((((opened running).setSegs (as.map fun a =>
      ⟨a, .mapped, Fin.ofNat 8192 a.point, none, false, false⟩)).modWork fun k =>
        { k with reads := [⟨1, 0, 0⟩], bases := as.map fun a => ⟨a, [], 0⟩ }).modSched fun k =>
          { k with lanes := k.lanes.set 2 (some ⟨0, 0, false, 0, 0, 0⟩) }).modBeam 0 fun k =>
            { k with
              enable := true, windows := Vector.replicate 6 64
              talk := { k.talk with state := .farOnly } })))
    (hu : u = after .segmentReadGrant s) :
    u.sched.listed = 256 ∧ s.keepsPass u 0 = true ∧ u.masked 0 = false
    ∧ (u.sched.lanes[(2 : LaneNo)]).map (·.point) = some 1 := by
  subst hu hs ha
  decide +kernel

/-! The invariants hold of states other than the reset state, and a step is made there. -/

theorem test_witness_MemoryAndPoolAreKept : step anchored = .next anchored
    ∧ Memory.wf anchored.mem = true ∧ anchored.PoolSound := ⟨rfl, rfl, anchored_poolSound⟩
theorem test_witness_LinksAndTimerAreKept : step running = .next running ∧ running.LinksSound
    ∧ running.timer.Sound := by
  refine ⟨rfl, ⟨?_, by decide +kernel⟩, by constructor <;> decide +kernel⟩
  intro l
  match l with
  | 0 => constructor <;> decide +kernel
  | 1 => constructor <;> decide +kernel
  | 2 => constructor <;> decide +kernel
/-- A history of zeros has no energy. -/
theorem energy_zeros (n k : Nat) : energy ((List.replicate n (0 : Sample)).take k) = 0 := by
  rw [List.take_replicate]
  generalize min k n = m
  induction m with
  | zero => rfl
  | succ m ih =>
    simp only [energy, List.replicate_succ, List.map_cons, List.sum_cons] at ih ⊢
    rw [ih]
    rfl
theorem test_witness_HistoryAndBeamsAreKept : step mapped = .next mapped
    ∧ (∀ z : Zone, mapped.zones[z].Exact) ∧ mapped.BeamsInRange := by
  refine ⟨rfl, ?_, ⟨?_, by unfold BeamState.WindowsPermitted; decide +kernel⟩⟩
  · intro z
    have hz : mapped.zones[z] = {} := by
      match z with
      | 0 => rfl
      | 1 => rfl
      | 2 => rfl
      | 3 => rfl
      | 4 => rfl
      | 5 => rfl
    rw [hz]
    refine ⟨List.length_replicate, fun i => ?_, (energy_zeros _ _).symm⟩
    rw [energy_zeros]
    simp
  · intro b
    have hb : ∀ c : Beam, mapped.beams[c].set = {} ∧ mapped.beams[c].est = {}
        ∧ mapped.beams[c].out = {} := by decide +kernel
    obtain ⟨h1, h2, h3⟩ := hb b
    constructor <;> simp only [h1, h2, h3] <;> decide
theorem test_witness_JobsAndBudgetAreKept : step anchored = .next anchored ∧ anchored.JobsSound
    ∧ step reading = .next reading ∧ reading.BudgetSound := by
  refine ⟨rfl, jobsSound_of_idle rfl rfl (by decide +kernel), rfl, ?_⟩
  have h : reading.port.account = some {} := rfl
  constructor
  · decide +kernel
  · simp [h]
  all_goals
    intro a ha
    rw [h] at ha
    cases ha
    decide +kernel

end Sys2Proof.Machine
end

section
/-! SET MIX (03 R46): its refusals, the gain it stores, and the frame of that store. -/

namespace Sys2Proof.Machine

/-! ## One gain of a zone -/

/-- R46: a link's column for a channel, in the row of every zone. -/
def mixColumn (l : Link) (channel : Byte) (h : channel.toNat < 4) : Fin 12 :=
  ⟨4 * l.val + channel.toNat, by omega⟩

/-- R45: a zone with one gain replaced. -/
def ZoneState.setGain (i : Fin 12) (gain : BitVec 16) (k : ZoneState) : ZoneState :=
  { k with gains := k.gains.set i gain }

/-- Every gain after one is replaced. -/
theorem ZoneState.setGain_gains_at (i j : Fin 12) (gain : BitVec 16) (k : ZoneState) :
    (k.setGain i gain).gains[j] = if j = i then gain else k.gains[j] :=
  getElem_set_fin k.gains i j gain

/-- After a gain of one zone is replaced, every zone differs from before in its gains at most. -/
theorem State.modZone_setGain_frame (z y : Zone) (i : Fin 12) (gain : BitVec 16) (s : State) :
    (s.modZone z (ZoneState.setGain i gain)).zones[y] =
      { s.zones[y] with gains := (s.modZone z (ZoneState.setGain i gain)).zones[y].gains } := by
  rw [State.modZone_at]
  split <;> rfl

/-- Every gain of every zone after one gain of one zone is replaced. -/
theorem State.modZone_setGain_gains_at (z y : Zone) (i j : Fin 12) (gain : BitVec 16) (s : State) :
    (s.modZone z (ZoneState.setGain i gain)).zones[y].gains[j] =
      if y = z ∧ j = i then gain else s.zones[y].gains[j] := by
  rw [State.modZone_at]
  by_cases hy : y = z
  · simp only [hy, if_true, true_and, ZoneState.setGain_gains_at]
  · simp only [hy, if_false, false_and]

/-! ## SET MIX -/

/-- R46: SET MIX on a zone above 5 is refused. -/
theorem runSetMix_of_zone_gt {l : Link} {zone channel : Byte} {gain : BitVec 16} {s : State}
    (h : 5 < zone.toNat) : runSetMix l zone channel gain s = refuse .badArgument s := by
  simp only [runSetMix, zoneOf_none h]

/-- R46: SET MIX on a channel above 3 is refused. -/
theorem runSetMix_of_channel_gt {l : Link} {zone channel : Byte} {gain : BitVec 16} {s : State}
    (h : 3 < channel.toNat) : runSetMix l zone channel gain s = refuse .badArgument s := by
  unfold runSetMix
  split
  · exact dif_neg (by omega)
  · rfl

/-- R46: SET MIX on a known zone and channel stores its gain in the link's column. -/
theorem runSetMix_of_known {l : Link} {zone channel : Byte} {gain : BitVec 16} {z : Zone}
    (hz : zone.toNat = z.val) (hc : channel.toNat < 4) (s : State) :
    runSetMix l zone channel gain s =
      done (s.modZone z (ZoneState.setGain (mixColumn l channel hc) gain)) := by
  simp only [runSetMix, zoneOf_eq hz, dif_pos hc]
  rfl

/-- The row of SET MIX is the arrival of its command. -/
theorem exec_setMix (l : Link) (tag zone channel : Byte) (gain : BitVec 16) (s : State) :
    exec (.setMix l tag zone channel gain) s = .next (s.arrive l tag (.setMix zone channel gain)) := rfl

/-- R29: carrying out SET MIX. -/
theorem runCommand_setMix (l : Link) (zone channel : Byte) (gain : BitVec 16) (s : State) :
    runCommand l (.setMix zone channel gain) s = answered (runSetMix l zone channel gain s) := rfl

/-- R46: a SET MIX that names no gain leaves its refusal and nothing else. -/
theorem exec_setMix_refused {l : Link} {zone channel : Byte} {s : State} (tag : Byte)
    (gain : BitVec 16) (h : s.Ready l) (hbad : 5 < zone.toNat ∨ 3 < channel.toNat) :
    exec (.setMix l tag zone channel gain) s = .next (s.respond l tag 2 []) := by
  have hrun (t : State) : runSetMix l zone channel gain t = refuse .badArgument t :=
    hbad.elim runSetMix_of_zone_gt runSetMix_of_channel_gt
  rw [exec_setMix, arrive_refused .badArgument h (by rw [runCommand_setMix, hrun])]
  rfl

/-- R46: a SET MIX that names a gain replaces that gain and is DONE. -/
theorem exec_setMix_done {l : Link} {zone channel : Byte} {z : Zone} {s : State} (tag : Byte)
    (gain : BitVec 16) (h : s.Ready l) (hz : zone.toNat = z.val) (hc : channel.toNat < 4) :
    exec (.setMix l tag zone channel gain) s =
      .next ((s.modZone z (ZoneState.setGain (mixColumn l channel hc) gain)).respond l tag 0 []) := by
  have hrun := runSetMix_of_known (l := l) (gain := gain) hz hc
  rw [exec_setMix]
  exact congrArg _ (arrive_done h rfl (by rw [runCommand_setMix, hrun, State.execute_modZone]))

/-- Settles O7: the state before the response is the one in which the named gain is replaced, and the
lemmas on that replacement give its frame and every gain. -/
theorem setMixStoresTheGain : Obligations.SetMixStoresTheGain := by
  intro l tag zone channel g s hready
  refine ⟨exec_setMix_refused tag g hready, fun z hz hch => ?_⟩
  have hc : channel.toNat < 4 := by omega
  refine ⟨_, exec_setMix_done tag g hready hz hc, rfl,
    fun y => State.modZone_setGain_frame z y _ g s, fun y i => ?_⟩
  rw [State.modZone_setGain_gains_at]
  simp only [Fin.ext_iff, mixColumn]

end Sys2Proof.Machine
end

section
/-! MAP SEGMENTS (04 R71): the first of its checks that fails, what its refusal counts, and the row's
outcome when it is refused. -/

namespace Sys2Proof.Machine

/-! ## The refusals of a range -/

/-- R69, R71: what a refusal counts in the pool. -/
def Pool.countRefusal (st : Status) (k : Pool) : Pool :=
  match st with
  | .overLimit => { k with overLimit := k.overLimit.bump }
  | .poolShort => { k with shortRefusals := k.shortRefusals.bump }
  | _ => k

/-- R71: the refusal of a range of a known path, by the first check that fails. -/
def State.mapRefusal (b : Beam) (z : Zone) (first count : Nat) (s : State) : Option Status :=
  if s.beams[b].windows[z] < first + count then some .badArgument
  else if s.modelState b ≠ .idle then some .beamBusy
  else if ∃ e ∈ s.segs, e.addr.within b z first count = true then some .beamBusy
  else if s.beams[b].enable = true ∧ Config.activeLimit < s.activeCount + count then some .overLimit
  else if s.freeCount < s.pagesFor b count then some .poolShort
  else if Config.commandJobLimit ≤ s.commandJobs then some .jobListFull
  else none

/-- R71: a path has an entry in the range when some entry's address lies within it. -/
theorem State.pathSegs_any_inRange (b : Beam) (z : Zone) (first count : Nat) (s : State) :
    ((s.pathSegs b z).any fun e => inRange first count e.addr.pos) = true ↔
      ∃ e ∈ s.segs, e.addr.within b z first count = true := by
  simp only [State.pathSegs, List.any_filter, List.any_eq_true, inRange, SegAddr.within,
    Bool.and_assoc]

/-! ## The command -/

/-- R71: MAP SEGMENTS on a beam above 15, on a zone above 5 or of no segments is refused. -/
theorem runMapSegments_of_bad_operand {l : Link} {beam zone first count : Byte} (s : State)
    (h : 15 < beam.toNat ∨ 5 < zone.toNat ∨ count = 0) :
    runMapSegments l beam zone first count s = refuse .badArgument s := by
  unfold runMapSegments
  rcases h with hbeam | hzone | hcount
  · simp only [beamOf_none hbeam]
  · rw [zoneOf_none hzone]
    cases beamOf beam <;> rfl
  · split
    · simp only [hcount, decide_true, Bool.true_or, if_true]
    · rfl

/-- R71: on a known path, a range that fails a check is refused by the first that fails and the refusal
is counted as its status says; any other range is mapped. -/
theorem runMapSegments_of_known {l : Link} {beam zone first count : Byte} {b : Beam} {z : Zone}
    (hb : beam.toNat = b.val) (hz : zone.toNat = z.val) (hc : count ≠ 0) (s : State) :
    runMapSegments l beam zone first count s =
      (s.mapRefusal b z first.toNat count.toNat).elim
        (done (s.mapRange l b z (positions first.toNat count.toNat)))
        fun st => refuse st (s.modPool (Pool.countRefusal st)) := by
  simp only [runMapSegments, beamOf_eq hb, zoneOf_eq hz, State.pathSegs_any_inRange, hc, decide_false,
    Bool.false_or, Bool.and_eq_true, decide_eq_true_eq, State.mapRefusal]
  split_ifs <;> rfl

/-- R29: carrying out MAP SEGMENTS. -/
theorem runCommand_mapSegments (l : Link) (beam zone first count : Byte) (s : State) :
    runCommand l (.mapSegments beam zone first count) s =
      answered (runMapSegments l beam zone first count s) := rfl

/-! ## The row -/

/-- The row of MAP SEGMENTS is the arrival of its command. -/
theorem exec_mapSegments (l : Link) (tag beam zone first count : Byte) (s : State) :
    exec (.mapSegments l tag beam zone first count) s =
      .next (s.arrive l tag (.mapSegments beam zone first count)) := rfl

/-- A command in execution leaves the refusal of a range as it is. -/
theorem State.execute_mapRefusal (l : Link) (tag : Byte) (c : Command) (b : Beam) (z : Zone)
    (first count : Nat) (s : State) :
    (s.execute l tag c).mapRefusal b z first count = s.mapRefusal b z first count := rfl

/-- R71: at a ready link, a MAP SEGMENTS with a bad operand leaves its response and nothing else. -/
theorem exec_mapSegments_of_bad_operand {l : Link} {beam zone first count : Byte} {s : State}
    (tag : Byte) (hready : s.Ready l) (h : 15 < beam.toNat ∨ 5 < zone.toNat ∨ count = 0) :
    exec (.mapSegments l tag beam zone first count) s = .next (s.respond l tag 2 []) := by
  rw [exec_mapSegments, arrive_refused .badArgument hready]
  · rfl
  · rw [runCommand_mapSegments, runMapSegments_of_bad_operand _ h]

/-- R71: at a ready link, a MAP SEGMENTS that fails a check leaves its response and what the refusal
counts. -/
theorem exec_mapSegments_of_mapRefusal {l : Link} {beam zone first count : Byte} {b : Beam} {z : Zone}
    {s : State} (tag : Byte) (st : Status) (hready : s.Ready l) (hb : beam.toNat = b.val)
    (hz : zone.toNat = z.val) (hc : count ≠ 0)
    (h : s.mapRefusal b z first.toNat count.toNat = some st) :
    exec (.mapSegments l tag beam zone first count) s =
      .next ((s.modPool (Pool.countRefusal st)).respond l tag st.code []) := by
  have hrun : runCommand l (.mapSegments beam zone first count)
      (s.execute l tag (.mapSegments beam zone first count)) =
      ((s.modPool (Pool.countRefusal st)).execute l tag (.mapSegments beam zone first count),
        some ⟨st, []⟩) := by
    rw [runCommand_mapSegments, runMapSegments_of_known hb hz hc, State.execute_mapRefusal, h]
    rfl
  rw [exec_mapSegments, arrive_ready (u := s.modPool (Pool.countRefusal st)) hready rfl hrun]

/-- Settles O38: under the hypotheses of each clause the checks before its own pass and its own fails, so
that check gives the refusal. -/
theorem mapRefusals : Obligations.MapRefusals := by
  intro l tag beam zone first count s hready
  refine ⟨exec_mapSegments_of_bad_operand tag hready, fun b z hb hz hc => ?_⟩
  have refused (st : Status) := exec_mapSegments_of_mapRefusal (first := first) tag st hready hb hz hc
  refine ⟨fun hwindow => refused .badArgument (if_pos hwindow), fun hwindow => ?_⟩
  refine ⟨fun hbusy => refused .beamBusy ?_, fun hidle => ?_⟩
  · rw [State.mapRefusal, if_neg hwindow.not_gt, if_pos hbusy]
  -- `hrest` is the refusal as the checks not yet passed give it: each check passed shortens it.
  have hrest : s.mapRefusal b z first.toNat count.toNat = _ :=
    (if_neg hwindow.not_gt).trans (if_neg (not_not.mpr hidle))
  refine ⟨fun hheld => refused .beamBusy (hrest.trans (if_pos hheld)), fun hclear => ?_⟩
  replace hrest := hrest.trans (if_neg (by simpa using hclear))
  refine ⟨fun hon hover => refused .overLimit ?_, fun hlimit => ?_⟩
  · exact hrest.trans (if_pos ⟨hon, hover⟩)
  replace hrest := hrest.trans (if_neg fun ⟨hon, hover⟩ =>
    hlimit.elim (fun hoff => Bool.eq_false_iff.mp hoff hon) fun hle => hle.not_gt hover)
  refine ⟨fun hshort => refused .poolShort (hrest.trans (if_pos hshort)), fun hroom hfull => ?_⟩
  exact refused .jobListFull (hrest.trans ((if_neg hroom.not_gt).trans (if_pos hfull)))

end Sys2Proof.Machine
end
